-- ==== Sys2Proof/Word.lean ====
section
/-!
DEFINITION. The byte of the flight link and of the configuration memory, and the two words of the
part that the manual numbers bit by bit: the 16-bit word of the CRC and of the cycle count, and the
26-bit word of an encoder read. Every other quantity of the part is exact integer arithmetic
(spec 00_scope.md, Numbers and arithmetic) and is held as a `Nat` or an `Int`.
-/

namespace Sys2Proof

/-- One character's eight data bits (R25), or one byte of the rigging image (R167). -/
abbrev Byte := BitVec 8

/-- A 16-bit word: the CRC register of R27, the cycle count of R41, the fingerprint of R79. -/
abbrev Word16 := BitVec 16

/-- The word an encoder read delivers (R121): bits 25..2 the count, bit 1 the error bit, bit 0 the
parity bit, in the order in which they are clocked in. -/
abbrev EncoderWord := BitVec 26

end Sys2Proof
end

