-- ==== Sys2Proof/Config.lean ====
section
/-!
DEFINITION. What the part's construction fixes: how many stations, cues and image bytes there are.
The manual leaves no RESULT of any command open, so there is no uninterpreted constant here: where
it leaves an ORDER open, the sender of the command chooses it (assumption log 11 and 12), and where
it states no reset value the log names one (log 8, 9, 10).
-/

namespace Sys2Proof.Config

/-- Station numbers run from 0 to 15 (spec 00_scope.md, Identifiers). -/
def stations : Nat := 16

/-- The cue directory has 32 entries (R71). -/
def cues : Nat := 32

/-- The rigging image begins with 333 fixed bytes (R160, R167). -/
def fixedBytes : Nat := 333

/-- A segment record has 6 bytes (R167). -/
def segmentBytes : Nat := 6

/-- At most 256 segment records (R71, R160). -/
def maxSegments : Nat := 256

/-- A frame's body has at most 24 bytes (R26). -/
def maxBody : Nat := 24

end Sys2Proof.Config
end

