-- ==== Sys2Proof/Syntax.lean ====
section
/-!
DEFINITION. The commands of the part: one constructor of `Instr` for each row of
spec/opcode_table.json, with the values that come from outside the part (the bytes of a frame, the
samples of an input, the bytes of the configuration memory) as operands. Where the manual leaves the
order of work inside one event open, an operand says which order is taken (assumption log 11, 12).
-/

namespace Sys2Proof

/-- What the BRKFB input shows: the brake set or released (Table 0-2). -/
inductive Feedback where
  | set
  | released
  deriving DecidableEq, Repr, Inhabited

/-- The four conditions on which the receive assembly discards the frame in progress (R36). -/
inductive DiscardCause where
  | framing
  | lengthAbove24
  | earlyIdle
  | crcMismatch
  deriving DecidableEq, Repr

/-- Where, inside one length sample, a checking block (the Load Monitor, the Creep Watch) makes its
checks. The manual leaves this open (R132, R134, R89, R62); the sender chooses. -/
inductive CheckPoint where
  /-- before the Sequencer's tests in PRIMED -/
  | beforeSequencer
  /-- after the Sequencer's tests in PRIMED, before stage 1 of the cycle computation -/
  | beforeComputation
  /-- after the computation and the speed command, before the test for completion -/
  | beforeCompletion
  /-- after the test for completion, before the own REPORT is composed -/
  | beforeReport
  /-- after the own REPORT is composed -/
  | afterReport
  deriving DecidableEq, Repr

/-- What a 2 kHz strobe finds at the inputs (R113, R127, R149, R150). DIP is not here: its level is
state, changed by `dipActive` and `dipInactive`. -/
structure StrobeInputs where
  /-- the signed 16-bit sample taken from TDAT (R127) -/
  tension : BitVec 16
  /-- BRKFB (R113) -/
  brkfb : Feedback
  /-- LSTOP active (R149) -/
  lstop : Bool
  /-- DFLT active (R150) -/
  dflt : Bool
  deriving DecidableEq, Repr

/-- The commands of the part, in the order of spec/opcode_table.json. -/
inductive Instr where
  /-- RESET (R159) -/
  | reset
  /-- MEMORY_READ_START (R160) -/
  | memoryReadStart
  /-- FIXED_BYTES_READ (R160): the 333 fixed bytes clocked in from MDI -/
  | fixedBytesRead (bytes : List Byte)
  /-- IMAGE_READ_COMPLETE (R160): the segment records and the two CRC bytes clocked in from MDI -/
  | imageReadComplete (bytes : List Byte)
  /-- IMAGE_CHECK_COMPLETE (R161, R162) -/
  | imageCheckComplete
  /-- STROBE (R127): `dt` microseconds after the command before it; `localFirst` says whether the
  Stop Controller takes the local inputs before the Line Loop takes BRKFB (assumption log 11) -/
  | strobe (dt : Nat) (inputs : StrobeInputs) (localFirst : Bool)
  /-- SETTLE_IN_END (R136) -/
  | settleInEnd
  /-- MEASURE_END (R136) -/
  | measureEnd
  /-- SETTLE_OUT_END (R136, R163) -/
  | settleOutEnd
  /-- LISTEN_WINDOW_END (R165) -/
  | listenWindowEnd
  /-- MARK_DUE (R44) -/
  | markDue
  /-- FREE_RUNNING_CYCLE_START (R49) -/
  | freeRunningCycleStart
  /-- PEER_STALE (R66) -/
  | peerStale
  /-- LOST_MEMBER (R68) -/
  | lostMember
  /-- ENABLE_EXPIRY (R87) -/
  | enableExpiry
  /-- PRIME_TIMEOUT (R17) -/
  | primeTimeout
  /-- STOP_OVERTIME (R144) -/
  | stopOvertime
  /-- BRAKE_TIMER_EXPIRY (R115) -/
  | brakeTimerExpiry
  /-- LSTOP_EDGE (R149) -/
  | lstopEdge
  /-- DIP_ACTIVE (R150) -/
  | dipActive
  /-- DIP_INACTIVE (R150) -/
  | dipInactive
  /-- FAULT_LAMP_BLINK (R158) -/
  | faultLampBlink
  /-- LENGTH_SAMPLE (R125): the 26-bit word of the encoder, and where in the sample the Load Monitor
  and the Creep Watch make their checks (assumption log 12) -/
  | lengthSample (word : EncoderWord) (load creep : CheckPoint)
  /-- SLACK_TIMEOUT (R131) -/
  | slackTimeout
  /-- LINE_IDLE (R24) -/
  | lineIdle
  /-- ARBITRATION_LOSS (R29) -/
  | arbitrationLoss
  /-- TRANSMIT_ERROR (R30) -/
  | transmitError
  /-- FRAME_SENT (R32) -/
  | frameSent
  /-- FRAME_DISCARD (R36) -/
  | frameDiscard (why : DiscardCause)
  /-- MARK_FRAME (R46): the acceptance, `dt` microseconds after the command before it, of a received
  frame of kind MARK with this sender and these body bytes -/
  | markFrame (dt : Nat) (sender : BitVec 4) (body : List Byte)
  /-- REPORT_FRAME (R58): the acceptance of a received frame of kind REPORT -/
  | reportFrame (sender : BitVec 4) (body : List Byte)
  /-- GO_FRAME (R5): the acceptance of a received frame of kind GO -/
  | goFrame (sender : BitVec 4) (body : List Byte)
  /-- RATE_FRAME (R86): the acceptance of a received frame of kind RATE -/
  | rateFrame (sender : BitVec 4) (body : List Byte)
  /-- STOP_FRAME (R148): the acceptance of a received frame of kind STOP -/
  | stopFrame (sender : BitVec 4) (body : List Byte)
  /-- CLEAR_FRAME (R153): the acceptance of a received frame of kind CLEAR -/
  | clearFrame (sender : BitVec 4) (body : List Byte)
  /-- LINE_BUSY (R24) -/
  | lineBusy
  /-- UNASSIGNED_KIND_FRAME (R38): the acceptance of a received frame with this kind code -/
  | unassignedKindFrame (kind : BitVec 4) (sender : BitVec 4) (body : List Byte)
  /-- PWM_PERIOD_START (R110) -/
  | pwmPeriodStart
  deriving DecidableEq, Repr

end Sys2Proof
end

