-- ==== Sys2Proof/Decode.lean ====
section
/-!
DEFINITION. The decoder over the rows of spec/opcode_table.json that give bits. The part is a block:
its commands are events, no row of the table carries an encoding (every row's "fields" is empty and
none has "fixed"), so no word spells a command and the decoder refuses every word.
-/

namespace Sys2Proof

/-- No row of the opcode table gives bits, so no word spells a command. -/
def decodeTableWord (_nbits _w : Nat) : Option Instr := none

end Sys2Proof
end

