-- ==== Sys2Proof/Machine/State.lean ====
section
/-!
DEFINITION. The state of the part, block by block (Table 0-3), as plain data; the reasons a step can
stop; the state after reset (R159 and each block's own chapter).
-/

namespace Sys2Proof.Machine

/-! ### Why a step can stop -/

/-- Faults of the model. There is none: the manual gives every command of the table an effect in
every state (an event that finds its condition absent leaves the part as it is, assumption log 5). -/
inductive Fault
  deriving DecidableEq, Repr

/-- Refusals of the model. -/
inductive Refusal where
  /-- Raised by `exec` alone, for a command whose meaning is not written. Safe: the run stops. -/
  | notModelled (mnemonic : String)
  deriving DecidableEq, Repr

/-! ### Fixed sets of names -/

/-- The eight station states (Table 1-1). -/
inductive StationState where
  | start | ready | primed | flying | parking | stopping | stopped | locked
  deriving DecidableEq, Repr, Inhabited

/-- The refusal codes (Table 1-6). -/
inductive RefusalCode where
  | noRefusal | busy | noCue | startPosition | groupNotReady | fingerprint | primeTimeout
  | clearBlocked | airspace
  deriving DecidableEq, Repr, Inhabited

/-- The fault and cause codes 1 to 19 (Table 9-2). -/
inductive FaultCode where
  | lostMember | memberStopped | groupStop | consoleStop | overload | slackTimeout | followTrip
  | encoder | driveFault | localStop | supplyDip | brakeNotReleased | brakeNotSet | brakeSlip
  | linkMute | duplicateStation | stopOvertime | image | selfCheck
  deriving DecidableEq, Repr

/-- The categories of stop (R137, Table 9-2). -/
inductive Category where
  | noStop | controlled | immediate | assist
  deriving DecidableEq, Repr, Inhabited

/-- The two phases of a controlled stop (R137, section 9.4). -/
inductive StopPhase where
  | ramping | settling
  deriving DecidableEq, Repr, Inhabited

/-- The lock cause (R137). -/
inductive LockCause where
  | noLock | image | selfCheck | duplicateStation
  deriving DecidableEq, Repr, Inhabited

/-- The brake command (R102). -/
inductive BrakeCommand where
  | set | release
  deriving DecidableEq, Repr, Inhabited

/-- The brake supervision state (R102). -/
inductive Supervision where
  | idle | waiting | matched | failed
  deriving DecidableEq, Repr, Inhabited

/-- The line state (R24). -/
inductive LineState where
  | idle | busy
  deriving DecidableEq, Repr, Inhabited

/-- The state of a transmit slot (R28). -/
inductive SlotState where
  | empty | pending | inAttempt
  deriving DecidableEq, Repr, Inhabited

/-- The three transmit slots (R28), in the order of their headers. -/
inductive SlotKind where
  | stop | mark | report
  deriving DecidableEq, Repr

/-- The last read result of the Length Reader (R120). -/
inductive ReadResult where
  | good | failed
  deriving DecidableEq, Repr, Inhabited

/-- The load progress (R159). -/
inductive LoadProgress where
  | wait | read | check | shunt | listen | done | failed
  deriving DecidableEq, Repr, Inhabited

/-- The phases of the shunt span check that take samples (Table 8-7). -/
inductive ShuntPhase where
  | settleIn | measure | settleOut
  deriving DecidableEq, Repr, Inhabited

/-- The profile of a segment (R73). -/
inductive Profile where
  | linear | ease
  deriving DecidableEq, Repr, Inhabited

/-- The presence of a Peer Table row (R54, Table 4-1). -/
inductive Presence where
  | silent | fresh | stale | lost
  deriving DecidableEq, Repr, Inhabited

/-- A roster role (R167, roster byte bits 7-4). -/
inductive Role where
  | noRole | winch | console
  deriving DecidableEq, Repr, Inhabited

/-! ### The Link Port -/

/-- A transmit slot (R28, R33, R34). `body` is the content while PENDING or IN ATTEMPT (empty for the
MARK slot, whose count is filled in at each attempt), `renewed` the renewed content of R33,
`withdrawn` a withdrawal of R34 that waits for the end of the attempt (MARK slot only). -/
structure Slot where
  st : SlotState := .empty
  body : List Byte := []
  renewed : Option (List Byte) := none
  attempts : Nat := 0
  withdrawn : Bool := false
  deriving DecidableEq, Repr, Inhabited

/-- The Link Port (chapter 2). `assembling` says that the receive assembly holds a frame in progress;
`txFrame` is the frame the transmitter drives, from header to CRC, while a slot is IN ATTEMPT. -/
structure LinkPort where
  line : LineState := .busy
  assembling : Bool := false
  stopSlot : Slot := {}
  markSlot : Slot := {}
  reportSlot : Slot := {}
  txFrame : List Byte := []
  deriving DecidableEq, Repr, Inhabited

/-! ### The Cycle Clock -/

/-- The Cycle Clock (R41), with `running` for R42 (the timer is held from reset until the listen
window opens) and `clkDiv`, the chip clocks counted toward the next microsecond (0 to 24). -/
structure CycleClock where
  count : Word16 := 0#16
  timer : Nat := 0
  unsync : Bool := true
  markRequested : Bool := false
  running : Bool := false
  clkDiv : Nat := 0
  deriving DecidableEq, Repr, Inhabited

/-! ### The Peer Table -/

/-- The fields of a REPORT body, as received (Table 4-2, Table 11-3, R60). -/
structure Report where
  cycleCount : Word16
  stateCode : Byte
  cue : Byte
  achieved : BitVec 24
  length : BitVec 24
  tension : BitVec 16
  holds : Byte
  flags : Byte
  firstFault : Byte
  faultSource : Byte
  laterFaults : BitVec 24
  refusal : Byte
  fingerprint : Word16
  deriving DecidableEq, Repr, Inhabited

/-- A row of the Peer Table (R54). Its role is WINCH. Its presence is not stored: it follows from the
age and the report part (R56). -/
structure Row where
  station : Nat
  group : Nat
  age : Nat := 0
  report : Option Report := none
  deriving DecidableEq, Repr, Inhabited

/-- The Peer Table: one row per roster winch, in order of station number (R54). `lostDue` is the
MODEL's own: the members that became LOST at the last cycle start with the own state PRIMED, FLYING
or PARKING there, and whose LOST_MEMBER has not been raised yet (R68, assumption log 4). -/
structure PeerTable where
  rows : List Row := []
  lostDue : List Nat := []
  deriving DecidableEq, Repr, Inhabited

/-! ### The Path Store -/

/-- A present directory entry (R72): segment count N, first segment index F, start length L0. -/
structure CueEntry where
  n : Nat
  f : Nat
  l0 : Nat
  deriving DecidableEq, Repr, Inhabited

/-- A segment record (R73): duration T, profile, end length Lb. -/
structure Segment where
  t : Nat
  profile : Profile
  lb : Nat
  deriving DecidableEq, Repr, Inhabited

/-- An exclusion entry (R77). -/
structure Exclusion where
  ownCue : Nat
  otherGroup : Nat
  otherCue : Nat
  deriving DecidableEq, Repr, Inhabited

/-- The Path Store (R71). The segment count and the exclusion count are the lengths of the lists. -/
structure PathStore where
  directory : List (Option CueEntry) := List.replicate Config.cues none
  segments : List Segment := []
  exclusions : List Exclusion := []
  fingerprint : Word16 := 0#16
  deriving DecidableEq, Repr, Inhabited

/-! ### The Station Sequencer -/

/-- The Station Sequencer (R1). -/
structure Sequencer where
  state : StationState := .start
  refusal : RefusalCode := .noRefusal
  primeTimer : Nat := 0
  complete : Bool := false
  deriving DecidableEq, Repr, Inhabited

/-! ### The Progress Governor -/

/-- The hold-reason set (R88). -/
structure Holds where
  enable : Bool
  peerStale : Bool
  slack : Bool
  loadBand : Bool
  deriving DecidableEq, Repr, Inhabited

/-- The Progress Governor (Table 6-1). -/
structure Governor where
  cue : Nat := 255
  q : Nat := 0
  k : Nat := 0
  dPrev : Nat := 0
  achieved : Nat := 0
  lag : Bool := false
  rate : Nat := 0
  enableAge : Nat := 255
  holds : Holds := { enable := true, peerStale := false, slack := false, loadBand := false }
  deriving DecidableEq, Repr, Inhabited

/-! ### The Line Loop -/

/-- The Line Loop (Table 7-1), with the PWM generator of R110: `pwmPhase` is the chip clock within the
period in progress and `pwmDuty` the duty that period began with. -/
structure LineLoop where
  target : Nat := 0
  prevTarget : Nat := 0
  err : Int := 0
  speed : Int := 0
  sat : Bool := false
  duty : Nat := 512
  drive : Bool := false
  brake : BrakeCommand := .set
  supervision : Supervision := .idle
  supTimer : Nat := 0
  brakeSample : Feedback := .set
  assistTarget : Nat := 0
  pwmPhase : Nat := 0
  pwmDuty : Nat := 512
  deriving DecidableEq, Repr, Inhabited

/-! ### The measuring blocks -/

/-- The Length Reader (Table 8-1), with the last encoder count of Table 0-3: that of the last word that R122 did
not fail (assumption log 26). -/
structure LengthReader where
  measured : Nat := 0
  lastCount : Nat := 0
  failures : Nat := 0
  lastResult : ReadResult := .good
  reading : Bool := false
  deriving DecidableEq, Repr, Inhabited

/-- The Tension Filter (R126): the delay line, oldest sample first. `requested` says that the Image
Loader has requested the shunt span check, from which on the filter takes samples. -/
structure TensionFilter where
  line : List Int := [0]
  sum : Int := 0
  latched : Nat := 0
  started : Bool := false
  requested : Bool := false
  deriving DecidableEq, Repr, Inhabited

/-- The Load Monitor (R131). `slackDue` is the MODEL's own: the last checks made in FLYING found the
counter at the slack limit and SLACK_TIMEOUT has not been raised yet (assumption log 4). -/
structure LoadMonitor where
  slackCounter : Nat := 0
  slackDue : Bool := false
  deriving DecidableEq, Repr, Inhabited

/-- The Creep Watch (R133). -/
structure CreepWatch where
  reference : Nat := 0
  armed : Bool := false
  deriving DecidableEq, Repr, Inhabited

/-! ### The Stop Controller -/

/-- The Stop Controller (Table 9-1), with the last strobe samples of the three local inputs (R153)
and the blink pattern of FAULT_OUT (R158): `blinkOn` the half in progress, `blinkClk` the chip clocks
of it that have passed. In `later`, code c is bit c - 1 (Table 11-3). -/
structure StopController where
  first : Option (FaultCode × Nat) := none
  later : BitVec 24 := 0#24
  category : Category := .noStop
  assist : Bool := false
  phase : StopPhase := .ramping
  stopTimer : Nat := 0
  lockPending : Bool := false
  lockCause : LockCause := .noLock
  localLatch : Bool := false
  dipTimer : Nat := 0
  lstopSample : Bool := false
  dipSample : Bool := false
  dfltSample : Bool := false
  blinkOn : Bool := true
  blinkClk : Nat := 0
  deriving DecidableEq, Repr, Inhabited

/-! ### The Image Loader -/

/-- The Image Loader and Memory Port (R159, R160, R136): load progress and listen counter, the chip
clocks counted in WAIT, MSEL, the bytes sent on MDO and read from MDI, and the shunt span check
(SHUNT, the phase, the samples taken in it, the raw sum of the Measure phase). -/
structure ImageLoader where
  progress : LoadProgress := .wait
  listenCounter : Nat := 0
  waitClk : Nat := 0
  msel : Bool := false
  mdo : List Byte := []
  buffer : List Byte := []
  shunt : Bool := false
  shuntPhase : ShuntPhase := .settleIn
  shuntCount : Nat := 0
  shuntSum : Int := 0
  deriving DecidableEq, Repr, Inhabited

/-- The station number, limits, gains, calibration and roster that the rigging image gives (R162,
Table 11-5). All 0 until the image is loaded (assumption log 8). -/
structure Params where
  station : Nat := 0
  lostLimit : Nat := 0
  enableLimit : Nat := 0
  brakeTime : Nat := 0
  slackLimit : Nat := 0
  primeLimit : Nat := 0
  stopLimit : Nat := 0
  leadW : Nat := 0
  rampA : Nat := 0
  stopA : Nat := 0
  followTol : Nat := 0
  tripTol : Nat := 0
  startTol : Nat := 0
  kp : Nat := 0
  shiftS : Nat := 0
  vMax : Nat := 0
  pwmInvert : Bool := false
  dirNegative : Bool := false
  tMax : Nat := 0
  tSlack : Nat := 0
  gLo : Nat := 0
  gHi : Nat := 0
  m : Nat := 0
  tOffset : Int := 0
  gain : Nat := 0
  shuntRef : Int := 0
  shuntTol : Nat := 0
  lZero : Nat := 0
  kScale : Nat := 0
  creepLimit : Nat := 0
  dipCode : Nat := 0
  roster : List Byte := List.replicate Config.stations 0#8
  deriving DecidableEq, Repr, Inhabited

/-! ### The whole part -/

/-- The state of the part. `dipLevel` is the level of the DIP input (active or not), which the dip
timer follows (R150). `pending` is the queue of commands that wait, first in, first out. -/
structure State where
  link : LinkPort := {}
  clock : CycleClock := {}
  peers : PeerTable := {}
  path : PathStore := {}
  seq : Sequencer := {}
  gov : Governor := {}
  loop : LineLoop := {}
  len : LengthReader := {}
  tens : TensionFilter := {}
  load : LoadMonitor := {}
  creep : CreepWatch := {}
  stop : StopController := {}
  loader : ImageLoader := {}
  params : Params := {}
  dipLevel : Bool := false
  pending : List Instr := []
  deriving DecidableEq, Repr, Inhabited

/-- The part right after reset: every block at its reset values, the outputs at their START values,
the load progress WAIT (R159, R1, R24, R28, R41, R42, R55, R71, R85, R102, R120, R126, R131, R133,
R137). -/
def State.reset : State := {}

/-! ### One update per block -/

/-- The state with another Link Port. -/
def State.withLink (s : State) (x : LinkPort) : State := { s with link := x }
/-- The state with another Cycle Clock. -/
def State.withClock (s : State) (x : CycleClock) : State := { s with clock := x }
/-- The state with another Peer Table. -/
def State.withPeers (s : State) (x : PeerTable) : State := { s with peers := x }
/-- The state with another Path Store. -/
def State.withPath (s : State) (x : PathStore) : State := { s with path := x }
/-- The state with another Station Sequencer. -/
def State.withSeq (s : State) (x : Sequencer) : State := { s with seq := x }
/-- The state with another Progress Governor. -/
def State.withGov (s : State) (x : Governor) : State := { s with gov := x }
/-- The state with another Line Loop. -/
def State.withLoop (s : State) (x : LineLoop) : State := { s with loop := x }
/-- The state with another Length Reader. -/
def State.withLen (s : State) (x : LengthReader) : State := { s with len := x }
/-- The state with another Tension Filter. -/
def State.withTens (s : State) (x : TensionFilter) : State := { s with tens := x }
/-- The state with another Load Monitor. -/
def State.withLoad (s : State) (x : LoadMonitor) : State := { s with load := x }
/-- The state with another Creep Watch. -/
def State.withCreep (s : State) (x : CreepWatch) : State := { s with creep := x }
/-- The state with another Stop Controller. -/
def State.withStop (s : State) (x : StopController) : State := { s with stop := x }
/-- The state with another Image Loader. -/
def State.withLoader (s : State) (x : ImageLoader) : State := { s with loader := x }
/-- The state with another set of image parameters. -/
def State.withParams (s : State) (x : Params) : State := { s with params := x }
/-- The state with another level at DIP. -/
def State.withDip (s : State) (x : Bool) : State := { s with dipLevel := x }
/-- The state with another queue of waiting commands. -/
def State.withPending (s : State) (x : List Instr) : State := { s with pending := x }

end Sys2Proof.Machine
end

