-- ==== Sys2Proof/Machine/Flags.lean ====
section
/-!
DEFINITION. The coded sets and tables of the part: state codes (Table 1-1), refusal codes (Table 1-6),
fault codes with their category and their STOP frame (Table 9-2), the later-fault set, the
hold-reason set and the flag byte of the REPORT (Table 11-3).
-/

namespace Sys2Proof.Machine

/-- The state code of Table 1-1; START and LOCKED have none, and no REPORT is composed there. -/
def StationState.code : StationState → Nat
  | .start => 0
  | .ready => 1
  | .primed => 2
  | .flying => 3
  | .parking => 4
  | .stopping => 5
  | .stopped => 6
  | .locked => 0

/-- READY, PRIMED, FLYING, PARKING, STOPPING and STOPPED: the states in which the part takes causes,
takes every kind of frame, requests MARKs and composes REPORTs (R38, R40, R44, R62, R138). -/
def StationState.operating : StationState → Bool
  | .start => false
  | .locked => false
  | .ready => true
  | .primed => true
  | .flying => true
  | .parking => true
  | .stopping => true
  | .stopped => true

/-- PRIMED, FLYING and PARKING: where member events raise their causes (R68, R69). -/
def StationState.inFlight : StationState → Bool
  | .primed => true
  | .flying => true
  | .parking => true
  | .start => false
  | .ready => false
  | .stopping => false
  | .stopped => false
  | .locked => false

/-- The refusal code's number (Table 1-6). -/
def RefusalCode.code : RefusalCode → Nat
  | .noRefusal => 0
  | .busy => 1
  | .noCue => 2
  | .startPosition => 3
  | .groupNotReady => 4
  | .fingerprint => 5
  | .primeTimeout => 6
  | .clearBlocked => 7
  | .airspace => 8

/-- The cause's code (Table 9-2). -/
def FaultCode.code : FaultCode → Nat
  | .lostMember => 1
  | .memberStopped => 2
  | .groupStop => 3
  | .consoleStop => 4
  | .overload => 5
  | .slackTimeout => 6
  | .followTrip => 7
  | .encoder => 8
  | .driveFault => 9
  | .localStop => 10
  | .supplyDip => 11
  | .brakeNotReleased => 12
  | .brakeNotSet => 13
  | .brakeSlip => 14
  | .linkMute => 15
  | .duplicateStation => 16
  | .stopOvertime => 17
  | .image => 18
  | .selfCheck => 19

/-- The cause's category (Table 9-2). -/
def FaultCode.category : FaultCode → Category
  | .lostMember => .controlled
  | .memberStopped => .controlled
  | .groupStop => .controlled
  | .consoleStop => .controlled
  | .overload => .controlled
  | .slackTimeout => .controlled
  | .followTrip => .immediate
  | .encoder => .immediate
  | .driveFault => .immediate
  | .localStop => .immediate
  | .supplyDip => .immediate
  | .brakeNotReleased => .immediate
  | .brakeNotSet => .assist
  | .brakeSlip => .assist
  | .linkMute => .controlled
  | .duplicateStation => .immediate
  | .stopOvertime => .immediate
  | .image => .immediate
  | .selfCheck => .immediate

/-- Whether Table 9-2 marks the cause as sent in a STOP frame by the rule of R141. DUPLICATE_STATION's
frame is requested by R152 instead, whatever the record held, so it is not marked here. -/
def FaultCode.sent : FaultCode → Bool
  | .lostMember => true
  | .overload => true
  | .slackTimeout => true
  | .followTrip => true
  | .encoder => true
  | .driveFault => true
  | .localStop => true
  | .supplyDip => true
  | .brakeNotReleased => true
  | .brakeNotSet => true
  | .brakeSlip => true
  | .linkMute => true
  | .memberStopped => false
  | .groupStop => false
  | .consoleStop => false
  | .duplicateStation => false
  | .stopOvertime => false
  | .image => false
  | .selfCheck => false

/-- The later-fault set with a code added: code c is bit c - 1, a code already in it stays (R139,
Table 11-3). -/
def addLater (later : BitVec 24) (c : FaultCode) : BitVec 24 :=
  later ||| (1#24 <<< (c.code - 1))

/-- Whether a code is in the later-fault set. -/
def inLater (later : BitVec 24) (c : FaultCode) : Bool := later.getLsbD (c.code - 1)

/-- Any hold reason set (R90 stage 2). -/
def Holds.any (h : Holds) : Bool := h.enable || h.peerStale || h.slack || h.loadBand

/-- The number 2^i when the flag is set, else 0: one bit of a flag byte. -/
def bitIf (b : Bool) (i : Nat) : Nat := if b then 2 ^ i else 0

/-- Byte 12 of the REPORT (Table 11-3). -/
def Holds.byte (h : Holds) : Byte :=
  BitVec.ofNat 8 (bitIf h.enable 0 + bitIf h.peerStale 1 + bitIf h.slack 2 + bitIf h.loadBand 3)

/-- Byte 13 of the REPORT: LAG, SAT, UNSYNC, COMPLETE, ASSIST (Table 11-3, R63). -/
def flagsByte (lag sat unsync complete assist : Bool) : Byte :=
  BitVec.ofNat 8 (bitIf lag 0 + bitIf sat 1 + bitIf unsync 2 + bitIf complete 3 + bitIf assist 4)

/-- COMPLETE in a stored flag byte: bit 3 of byte 13 (R166). -/
def flagComplete (flags : Byte) : Bool := flags.getLsbD 3

end Sys2Proof.Machine
end

