-- ==== Sys2Proof/Machine/Operands.lean ====
section
/-!
DEFINITION. The byte layouts of the frames and of the rigging image (chapter 11), the CRC of R27, and
the encoder word of R121: every form in which a value reaches the part or leaves it.
-/

namespace Sys2Proof.Machine

/-! ### Big-endian fields -/

/-- Byte `i` of a byte string as a number. -/
def byteAt (bs : List Byte) (i : Nat) : Nat := (bs.getD i 0#8).toNat

/-- The two-byte big-endian field at offset `i` (R167). -/
def field2 (bs : List Byte) (i : Nat) : Nat := byteAt bs i * 256 + byteAt bs (i + 1)

/-- The three-byte big-endian field at offset `i` (R167). -/
def field3 (bs : List Byte) (i : Nat) : Nat :=
  byteAt bs i * 65536 + byteAt bs (i + 1) * 256 + byteAt bs (i + 2)

/-- The signed two-byte field at offset `i`, in two's complement (R167). -/
def signedField2 (bs : List Byte) (i : Nat) : Int := (BitVec.ofNat 16 (field2 bs i)).toInt

/-- A number as two bytes, high byte first. -/
def bytes2 (n : Nat) : List Byte := [BitVec.ofNat 8 (n / 256), BitVec.ofNat 8 n]

/-- A number as three bytes, high byte first. -/
def bytes3 (n : Nat) : List Byte :=
  [BitVec.ofNat 8 (n / 65536), BitVec.ofNat 8 (n / 256), BitVec.ofNat 8 n]

/-! ### The CRC (R27) -/

/-- One shift of the CRC register, with generator polynomial x^16 + x^12 + x^5 + 1. -/
def crcShift (r : Word16) : Word16 := if r.msb then (r <<< 1) ^^^ 0x1021#16 else r <<< 1

/-- The register after one byte, most significant bit first. -/
def crcByte (r : Word16) (b : Byte) : Word16 :=
  crcShift (crcShift (crcShift (crcShift (crcShift (crcShift (crcShift (crcShift
    (r ^^^ (b.setWidth 16 <<< 8)))))))))

/-- The CRC of a byte string: the register starts at 0xFFFF and is sent as it is. -/
def crc16 (bs : List Byte) : Word16 := bs.foldl crcByte 0xFFFF#16

/-! ### Frames (R26, R166) -/

/-- The kind codes of Table 2-1. -/
def kindStop : BitVec 4 := 0#4
/-- MARK (Table 2-1). -/
def kindMark : BitVec 4 := 1#4
/-- GO (Table 2-1). -/
def kindGo : BitVec 4 := 2#4
/-- CLEAR (Table 2-1). -/
def kindClear : BitVec 4 := 3#4
/-- RATE (Table 2-1). -/
def kindRate : BitVec 4 := 4#4
/-- REPORT (Table 2-1). -/
def kindReport : BitVec 4 := 8#4

/-- The kind code of a transmit slot. -/
def SlotKind.kind : SlotKind → BitVec 4
  | .stop => kindStop
  | .mark => kindMark
  | .report => kindReport

/-- The body length Table 2-1 gives a kind; none for an unassigned kind. -/
def bodyLength (kind : BitVec 4) : Option Nat :=
  if kind = kindStop then some 3
  else if kind = kindMark then some 2
  else if kind = kindGo then some 2
  else if kind = kindClear then some 2
  else if kind = kindRate then some 2
  else if kind = kindReport then some 22
  else none

/-- The header byte: kind code times 16 plus the sender's number (R26, Table 11-1). -/
def header (kind sender : BitVec 4) : Byte := BitVec.ofNat 8 (kind.toNat * 16 + sender.toNat)

/-- A frame as it is sent: header, length, body, CRC high byte, CRC low byte (R26, R27). -/
def buildFrame (kind sender : BitVec 4) (body : List Byte) : List Byte :=
  let covered := header kind sender :: BitVec.ofNat 8 body.length :: body
  covered ++ bytes2 (crc16 covered).toNat

/-- What the receive assembly makes of the characters of a frame without framing error (R36): the
kind, the sender and the body of a frame whose length is at most 24 and matches the characters
received and whose CRC matches; none for a frame it discards. -/
def checkFrame (chars : List Byte) : Option (BitVec 4 × BitVec 4 × List Byte) :=
  match chars with
  | hd :: len :: rest =>
    if len.toNat ≤ Config.maxBody && rest.length == len.toNat + 2 then
      let body := rest.take len.toNat
      if field2 rest len.toNat = (crc16 (hd :: len :: body)).toNat then
        some (BitVec.ofNat 4 (hd.toNat / 16), BitVec.ofNat 4 hd.toNat, body)
      else none
    else none
  | _ => none

/-- The body of a STOP frame: target group, cause code, cause station (Table 11-2). -/
def stopBody (group code station : Nat) : List Byte :=
  [BitVec.ofNat 8 group, BitVec.ofNat 8 code, BitVec.ofNat 8 station]

/-- The body of a MARK frame: the carried count (Table 11-2). -/
def markBody (carried : Word16) : List Byte := bytes2 carried.toNat

/-- The carried count of a MARK body (Table 11-2). -/
def carriedCount (body : List Byte) : Word16 := BitVec.ofNat 16 (field2 body 0)

/-- The 22 bytes of a REPORT body (Table 11-3). -/
def Report.toBytes (r : Report) : List Byte :=
  bytes2 r.cycleCount.toNat ++ [r.stateCode, r.cue] ++ bytes3 r.achieved.toNat ++
    bytes3 r.length.toNat ++ bytes2 r.tension.toNat ++
    [r.holds, r.flags, r.firstFault, r.faultSource] ++ bytes3 r.laterFaults.toNat ++
    [r.refusal] ++ bytes2 r.fingerprint.toNat

/-- The fields of a REPORT body, as received, with no range check (R60, Table 11-3). -/
def Report.ofBytes (bs : List Byte) : Report where
  cycleCount := BitVec.ofNat 16 (field2 bs 0)
  stateCode := bs.getD 2 0#8
  cue := bs.getD 3 0#8
  achieved := BitVec.ofNat 24 (field3 bs 4)
  length := BitVec.ofNat 24 (field3 bs 7)
  tension := BitVec.ofNat 16 (field2 bs 10)
  holds := bs.getD 12 0#8
  flags := bs.getD 13 0#8
  firstFault := bs.getD 14 0#8
  faultSource := bs.getD 15 0#8
  laterFaults := BitVec.ofNat 24 (field3 bs 16)
  refusal := bs.getD 19 0#8
  fingerprint := BitVec.ofNat 16 (field2 bs 20)

/-! ### The encoder word (R121, R122) -/

/-- The 24-bit count of an encoder word. -/
def encoderCount (w : EncoderWord) : Nat := w.toNat / 4

/-- The number of ones among all 26 bits. -/
def encoderOnes (w : EncoderWord) : Nat := (List.range 26).countP fun i => w.getLsbD i

/-- A word the reader fails: an odd number of ones, or the error bit set (R122). -/
def encoderWordFailed (w : EncoderWord) : Bool :=
  encoderOnes w % 2 == 1 || w.getLsbD 1

/-! ### The rigging image (R167, Table 11-5) -/

/-- The role of a roster byte: bits 7-4, 0 NONE, 1 WINCH, 2 CONSOLE. Other values are refused by
check 8 and read as NONE here. -/
def rosterRole (b : Byte) : Role :=
  if b.toNat / 16 = 1 then .winch else if b.toNat / 16 = 2 then .console else .noRole

/-- The group of a roster byte: bits 3-0. -/
def rosterGroup (b : Byte) : Nat := b.toNat % 16

/-- The 16 roster bytes. -/
def imageRoster (img : List Byte) : List Byte :=
  (List.range Config.stations).map fun i => img.getD (58 + i) 0#8

/-- The segment count of an image (offset 331). -/
def imageSegmentCount (img : List Byte) : Nat := field2 img 331

/-- The exclusion count of an image (offset 74). -/
def imageExclusionCount (img : List Byte) : Nat := byteAt img 74

/-- Cue record `c`: N, F and L0 as they stand (offset 171 + 5 c). -/
def imageCue (img : List Byte) (c : Nat) : CueEntry where
  n := byteAt img (171 + 5 * c)
  f := byteAt img (171 + 5 * c + 1)
  l0 := field3 img (171 + 5 * c + 2)

/-- The directory entry of cue record `c`: absent when N is 0 (R72). -/
def imageEntry (img : List Byte) (c : Nat) : Option CueEntry :=
  if (imageCue img c).n = 0 then none else some (imageCue img c)

/-- Exclusion entry `i` (offset 75 + 3 i). -/
def imageExclusion (img : List Byte) (i : Nat) : Exclusion where
  ownCue := byteAt img (75 + 3 * i)
  otherGroup := byteAt img (75 + 3 * i + 1)
  otherCue := byteAt img (75 + 3 * i + 2)

/-- The profile byte of segment record `j`. -/
def imageProfileByte (img : List Byte) (j : Nat) : Nat :=
  byteAt img (Config.fixedBytes + Config.segmentBytes * j + 2)

/-- Segment record `j` (offset 333 + 6 j). -/
def imageSegment (img : List Byte) (j : Nat) : Segment where
  t := field2 img (Config.fixedBytes + Config.segmentBytes * j)
  profile := if imageProfileByte img j = 0 then .linear else .ease
  lb := field3 img (Config.fixedBytes + Config.segmentBytes * j + 3)

/-- The limits, gains, calibration, roster and station number of an image (Table 11-5). -/
def imageParams (img : List Byte) : Params where
  station := byteAt img 2
  lostLimit := byteAt img 3
  enableLimit := byteAt img 4
  brakeTime := byteAt img 5
  slackLimit := byteAt img 6
  primeLimit := field2 img 7
  stopLimit := field2 img 9
  leadW := field2 img 11
  rampA := field3 img 13
  stopA := field3 img 16
  followTol := field2 img 19
  tripTol := field2 img 21
  startTol := field2 img 23
  kp := field2 img 25
  shiftS := byteAt img 27
  vMax := field2 img 28
  pwmInvert := (img.getD 30 0#8).getLsbD 0
  dirNegative := (img.getD 30 0#8).getLsbD 1
  tMax := field2 img 31
  tSlack := field2 img 33
  gLo := field3 img 35
  gHi := field3 img 38
  m := byteAt img 41
  tOffset := signedField2 img 42
  gain := field2 img 44
  shuntRef := signedField2 img 46
  shuntTol := field2 img 48
  lZero := field3 img 50
  kScale := field2 img 53
  creepLimit := field2 img 55
  dipCode := byteAt img 57
  roster := imageRoster img

/-- The cue library of an image (R71, R72, R73, R77). The fingerprint is computed afterwards (R79). -/
def imagePath (img : List Byte) : PathStore where
  directory := (List.range Config.cues).map (imageEntry img)
  segments := (List.range (imageSegmentCount img)).map (imageSegment img)
  exclusions := (List.range (imageExclusionCount img)).map (imageExclusion img)
  fingerprint := 0#16

end Sys2Proof.Machine
end

