-- ==== Sys2Proof/Machine/Ops.lean ====
section
/-!
DEFINITION. The operations the commands share: the passing of time, the transmit slots and the start
of an attempt, the brake and the drive, the Creep Watch's arming, the taking of a cause, entry to
PARKING and entry to LOCKED. Each is applied whole, as its rule says.
-/

namespace Sys2Proof.Machine

/-! ### Who the station is -/

/-- The own station number (R162). -/
def State.own (s : State) : Nat := s.params.station

/-- The own station number as the lower half of a header (Table 11-1). -/
def State.ownNibble (s : State) : BitVec 4 := BitVec.ofNat 4 s.own

/-- The roster role of a station (R39). -/
def State.roleOf (s : State) (n : Nat) : Role := rosterRole (s.params.roster.getD n 0#8)

/-- The roster group of a station. -/
def State.groupOf (s : State) (n : Nat) : Nat := rosterGroup (s.params.roster.getD n 0#8)

/-- The own group. -/
def State.ownGroup (s : State) : Nat := s.groupOf s.own

/-- A group field that means the own group: 0 for all groups, or the own number (R86, R148, R153). -/
def State.addressed (s : State) (g : Nat) : Bool := g == 0 || g == s.ownGroup

/-! ### Time: chip clocks and microseconds -/

/-- Chip clocks in a microsecond (R42). -/
def clocksPerMicrosecond : Nat := 25

/-- Where the cycle timer expires, in microseconds (R49). -/
def cycleExpiry : Nat := 6000

/-- Below this cycle timer value a MARK is early; the listen window presets the timer to it (R46, R42). -/
def earlyMarkLimit : Nat := 3000

/-- The due time of the own MARK in microseconds (R44). -/
def State.markDueTime (s : State) : Nat := 4000 + 20 * s.own

/-- The largest value of the dip timer, in microseconds (R137). -/
def dipTimerLimit : Nat := 1000

/-- The chip clocks of WAIT: 1,000 microseconds (R160). -/
def waitClocks : Nat := 25000

/-- The chip clocks of a PWM period (R110). -/
def pwmPeriod : Nat := 1024

/-- The chip clocks of one half of the lamp's blink: 500 ms for SELF_CHECK, 125 ms for
DUPLICATE_STATION, none for a steady lamp (Table 9-6). -/
def blinkHalf : LockCause → Option Nat
  | .selfCheck => some 12500000
  | .duplicateStation => some 3125000
  | .image => none
  | .noLock => none

/-- The PWM generator after `n` chip clocks: at each boundary the period takes up the duty then in
force (R110). -/
def LineLoop.elapsePwm (l : LineLoop) (n : Nat) : LineLoop :=
  { l with
    pwmPhase := (l.pwmPhase + n) % pwmPeriod
    pwmDuty := if pwmPeriod ≤ l.pwmPhase + n then l.duty else l.pwmDuty }

/-- The lamp's blink after `n` chip clocks of a pattern with halves of `h` clocks (R158). -/
def StopController.elapseBlink (c : StopController) (h n : Nat) : StopController :=
  { c with
    blinkOn := if (c.blinkClk + n) / h % 2 = 1 then !c.blinkOn else c.blinkOn
    blinkClk := (c.blinkClk + n) % h }

/-- The half of the blink pattern that runs, if one does: only in LOCKED (R158). -/
def State.blinkRunning (s : State) : Option Nat :=
  if s.seq.state = .locked then blinkHalf s.stop.lockCause else none

/-- The microseconds that `n` further chip clocks complete. -/
def State.elapsedUs (s : State) (n : Nat) : Nat := (s.clock.clkDiv + n) / clocksPerMicrosecond

/-- The Cycle Clock after `n` chip clocks: the timer advances once it runs, and stays at 6000 until
the cycle start that its expiry is (R42, R49). -/
def State.elapseClock (s : State) (n : Nat) : CycleClock :=
  { s.clock with
    clkDiv := (s.clock.clkDiv + n) % clocksPerMicrosecond
    timer := if s.clock.running then min cycleExpiry (s.clock.timer + s.elapsedUs n) else s.clock.timer }

/-- The Stop Controller after `n` chip clocks: the dip timer counts while DIP is active (R150), the
lamp blinks (R158). -/
def State.elapseStop (s : State) (n : Nat) : StopController :=
  let c := { s.stop with
    dipTimer := if s.dipLevel then min dipTimerLimit (s.stop.dipTimer + s.elapsedUs n) else s.stop.dipTimer }
  match s.blinkRunning with
  | some h => c.elapseBlink h n
  | none => c

/-- The Image Loader after `n` chip clocks: WAIT is counted (R160). -/
def State.elapseLoader (s : State) (n : Nat) : ImageLoader :=
  if s.loader.progress = .wait then
    { s.loader with waitClk := min waitClocks (s.loader.waitClk + n) }
  else s.loader

/-- `n` chip clocks pass. Nothing but the timers, the PWM generator and the lamp changes. -/
def elapse (n : Nat) (s : State) : State :=
  { s with
    clock := s.elapseClock n
    loop := s.loop.elapsePwm n
    stop := s.elapseStop n
    loader := s.elapseLoader n }

/-- `us` microseconds of the chip clock pass. -/
def elapseUs (us : Nat) (s : State) : State := elapse (clocksPerMicrosecond * us) s

/-- The chip clocks until the running cycle timer first stands at `us` microseconds; 0 when it is
there or past it. -/
def State.clocksUntil (s : State) (us : Nat) : Nat :=
  if s.clock.timer < us then clocksPerMicrosecond * (us - s.clock.timer) - s.clock.clkDiv else 0

/-! ### The transmit slots (R28 to R35) -/

/-- The slot of a kind. -/
def LinkPort.slot (l : LinkPort) : SlotKind → Slot
  | .stop => l.stopSlot
  | .mark => l.markSlot
  | .report => l.reportSlot

/-- The Link Port with another slot of a kind. -/
def LinkPort.setSlot (l : LinkPort) (k : SlotKind) (x : Slot) : LinkPort :=
  match k with
  | .stop => { l with stopSlot := x }
  | .mark => { l with markSlot := x }
  | .report => { l with reportSlot := x }

/-- A request acts on the slot according to its state (R33). -/
def Slot.request (x : Slot) (body : List Byte) : Slot :=
  match x.st with
  | .empty => { st := .pending, body := body }
  | .pending => { x with body := body }
  | .inAttempt => { x with renewed := some body }

/-- A withdrawal of the MARK acts on the slot according to its state (R34). -/
def Slot.withdraw (x : Slot) : Slot :=
  match x.st with
  | .empty => x
  | .pending => {}
  | .inAttempt => { x with withdrawn := true }

/-- The slot after an arbitration loss (R29, Table 2-3, R34). -/
def Slot.afterLoss (x : Slot) : Slot :=
  if x.withdrawn then {}
  else { st := .pending, body := x.renewed.getD x.body, attempts := x.attempts }

/-- The slot after its frame is sent (R32, R34). -/
def Slot.afterSent (x : Slot) : Slot :=
  if x.withdrawn then {}
  else match x.renewed with
    | some body => { st := .pending, body := body }
    | none => {}

/-- The slot after a transmit error (R30, R31, Table 2-3, R34). -/
def Slot.afterError (x : Slot) : Slot :=
  if x.withdrawn then {}
  else if x.attempts + 1 < 3 then
    { st := .pending, body := x.renewed.getD x.body, attempts := x.attempts + 1 }
  else {}

/-- Whether a transmit error on the slot is the third one, which reports LINK_MUTE (R31, R34). -/
def Slot.mutes (x : Slot) : Bool := !x.withdrawn && !decide (x.attempts + 1 < 3)

/-- A request for a slot (R33). -/
def requestSlot (k : SlotKind) (body : List Byte) (s : State) : State :=
  s.withLink (s.link.setSlot k ((s.link.slot k).request body))

/-- The slot IN ATTEMPT, if there is one. The transmitter drives one frame at a time. -/
def LinkPort.attempting (l : LinkPort) : Option SlotKind :=
  if l.stopSlot.st = .inAttempt then some .stop
  else if l.markSlot.st = .inAttempt then some .mark
  else if l.reportSlot.st = .inAttempt then some .report
  else none

/-- The PENDING slot whose frame has the lowest header: STOP before MARK before REPORT (R28). -/
def LinkPort.nextPending (l : LinkPort) : Option SlotKind :=
  if l.stopSlot.st = .pending then some .stop
  else if l.markSlot.st = .pending then some .mark
  else if l.reportSlot.st = .pending then some .report
  else none

/-- The body an attempt on a slot sends: a MARK carries the count plus one, read at the start of the
attempt (R34, R45). -/
def State.attemptBody (s : State) (k : SlotKind) : List Byte :=
  match k with
  | .stop => s.link.stopSlot.body
  | .mark => markBody (s.clock.count + 1#16)
  | .report => s.link.reportSlot.body

/-- The Link Port when an attempt on slot `k` begins: the slot is IN ATTEMPT, the frame is completed
with its length and CRC, and the own start bit makes the line BUSY and begins a frame in the receive
assembly (R28, R24, R36). DESIGN CHOICE, unsafe: so it does also where the own start bit then reads back
recessive, a transmit error (R30) at a start bit that nobody has seen dominant (R24): the line stays BUSY,
and the next attempt waits for a LINE_IDLE (assumption log 31). -/
def State.attemptOn (s : State) (k : SlotKind) : LinkPort :=
  { s.link.setSlot k { s.link.slot k with st := .inAttempt } with
    txFrame := buildFrame k.kind s.ownNibble (s.attemptBody k)
    line := .busy
    assembling := true }

/-- Whether an attempt may begin: the line IDLE, no attempt in progress, and the station neither in
START nor in LOCKED (R28, R35). -/
def State.mayAttempt (s : State) : Bool :=
  s.seq.state.operating && s.link.line == .idle && s.link.attempting.isNone

/-- An attempt begins if one may and a slot is PENDING (R28). Made at the end of every command, when
all its requests are in place (assumption log 15). -/
def beginAttempt (s : State) : State :=
  if s.mayAttempt then
    match s.link.nextPending with
    | some k => s.withLink (s.attemptOn k)
    | none => s
  else s

/-! ### The Creep Watch's arming (R133, R135) -/

/-- The reference takes the measured length held at that moment, and the armed flag sets (R133). -/
def armCreep (s : State) : State := s.withCreep { reference := s.len.measured, armed := true }

/-- The Creep Watch disarms; the reference keeps its value (R135). -/
def disarmCreep (s : State) : State := s.withCreep { s.creep with armed := false }

/-! ### Drive enable and brake command (R111 to R118) -/

/-- The drive goes off: the duty becomes 512 at once and v becomes 0 (R111). -/
def driveOff (s : State) : State :=
  s.withLoop { s.loop with drive := false, duty := 512, speed := 0 }

/-- The station state with the Sequencer's other items kept. -/
def toState (st : StationState) (s : State) : State := s.withSeq { s.seq with state := st }

/-- Parked: the brake is confirmed set in PARKING, the drive goes off, the station is READY (R21). -/
def parked (s : State) : State := toState .ready (driveOff s)

/-- Settled: the brake is confirmed set in SETTLING, the drive goes off, the station is STOPPED (R143). -/
def settled (s : State) : State := toState .stopped (driveOff s)

/-- The feedback matches the command (R113). -/
def feedbackMatches (c : BrakeCommand) (f : Feedback) : Bool :=
  match c, f with
  | .set, .set => true
  | .release, .released => true
  | .set, .released => false
  | .release, .set => false

/-- A confirmation under SET is reported to the Creep Watch, which arms (Table 8-5), and to the
Sequencer and the Stop Controller, which complete a park or a settled stop (R114, R21, R143). -/
def brakeSetConfirmed (s : State) : State :=
  match s.seq.state with
  | .parking => parked (armCreep s)
  | .stopping => if s.stop.phase = .settling then settled (armCreep s) else armCreep s
  | .stopped => if s.stop.assist then s else armCreep s
  | .start => s
  | .ready => s
  | .primed => s
  | .flying => s
  | .locked => s

/-- The brake is confirmed: MATCHED, and under SET the confirmation is reported (R114). -/
def confirmBrake (s : State) : State :=
  let s1 := s.withLoop { s.loop with supervision := .matched }
  match s.loop.brake with
  | .release => s1
  | .set => brakeSetConfirmed s1

/-- The supervision restarts on the command that stands: timer 0, WAITING, and confirmed at once if
the last sample already matches (R113). -/
def restartSupervision (s : State) : State :=
  let s1 := s.withLoop { s.loop with supervision := .waiting, supTimer := 0 }
  if feedbackMatches s.loop.brake s.loop.brakeSample then confirmBrake s1 else s1

/-- A brake command. One that stands already is left with its supervision as it is (R111); a change
restarts the supervision except in START and LOCKED (R113, R117). -/
def commandBrake (c : BrakeCommand) (s : State) : State :=
  if s.loop.brake = c then s
  else
    let s1 := s.withLoop { s.loop with brake := c }
    if s.seq.state.operating then restartSupervision s1 else s1

/-- Prime (R111, R13): the drive on, the target and the previous target at L0, RELEASE commanded, the
Creep Watch disarmed. -/
def primeRequest (l0 : Nat) (s : State) : State :=
  commandBrake .release
    (disarmCreep (s.withLoop { s.loop with drive := true, target := l0, prevTarget := l0 }))

/-- Park (R111, R20): SET commanded, the target frozen, the previous target equal to it. -/
def parkRequest (s : State) : State :=
  commandBrake .set (s.withLoop { s.loop with prevTarget := s.loop.target })

/-- Settle (R111, R142): SET commanded, the target held. If SET was commanded and the brake stands
confirmed, the stop is completed in the same event (R143). -/
def settleRequest (s : State) : State :=
  if s.loop.brake = .set then
    if s.loop.supervision = .matched then settled s else s
  else commandBrake .set s

/-- Immediate stop (R111): the drive off, SET commanded. -/
def immediateRequest (s : State) : State := commandBrake .set (driveOff s)

/-- The assist target: the armed Creep Watch's reference, otherwise the measured length (R118). -/
def State.assistLength (s : State) : Nat := if s.creep.armed then s.creep.reference else s.len.measured

/-- Assist (R111, R118): the target and the previous target at the assist target, the drive on, SET
commanded. -/
def assistRequest (s : State) : State :=
  commandBrake .set (s.withLoop { s.loop with
    assistTarget := s.assistLength
    target := s.assistLength
    prevTarget := s.assistLength
    drive := true })

/-- End assist (R111, R119): the drive off, the brake command SET. -/
def endAssistRequest (s : State) : State := commandBrake .set (driveOff s)

/-- Lock (R111, R117): the drive off, SET commanded, the supervision IDLE with timer 0. -/
def lockRequest (s : State) : State :=
  s.withLoop { s.loop with
    drive := false, duty := 512, speed := 0
    brake := .set, supervision := .idle, supTimer := 0 }

/-! ### Taking a cause (R138 to R147) -/

/-- A cause opens an empty record as the first cause, or joins the later-fault set (R139). -/
def StopController.record (x : StopController) (c : FaultCode) (src : Nat) : StopController :=
  match x.first with
  | none => { x with first := some (c, src) }
  | some _ => { x with later := addLater x.later c }

/-- The Stop Controller in a new category of stop; the ASSIST flag is set while it is ASSIST (R147). -/
def StopController.enterCategory (x : StopController) (cat : Category) : StopController :=
  { x with category := cat, assist := decide (cat = .assist) }

/-- A stop from READY (Table 9-3, Table 1-4). -/
def stopFromReady (cat : Category) (s : State) : State :=
  let s1 := toState .stopped (s.withStop (s.stop.enterCategory cat))
  match cat with
  | .noStop => s
  | .controlled => s1
  | .immediate => immediateRequest s1
  | .assist => assistRequest s1

/-- A stop from PRIMED, FLYING or PARKING (Table 9-3, Table 1-4). -/
def stopFromFlight (cat : Category) (s : State) : State :=
  let s1 := s.withStop (s.stop.enterCategory cat)
  match cat with
  | .noStop => s
  | .controlled => toState .stopping (s1.withStop { s1.stop with phase := .ramping, stopTimer := 0 })
  | .immediate => immediateRequest (toState .stopped s1)
  | .assist => assistRequest (toState .stopped s1)

/-- A cause taken in STOPPING (R145). -/
def stopFromStopping (cat : Category) (s : State) : State :=
  match cat with
  | .noStop => s
  | .controlled => s
  | .immediate => immediateRequest (toState .stopped (s.withStop (s.stop.enterCategory .immediate)))
  | .assist => assistRequest (toState .stopped (s.withStop (s.stop.enterCategory .assist)))

/-- A cause taken in STOPPED (Table 9-4). -/
def stopFromStopped (cat : Category) (s : State) : State :=
  match s.stop.category, cat with
  | .controlled, .immediate => immediateRequest (s.withStop (s.stop.enterCategory .immediate))
  | .controlled, .assist => assistRequest (s.withStop (s.stop.enterCategory .assist))
  | .assist, .immediate => endAssistRequest (s.withStop (s.stop.enterCategory .immediate))
  | _, _ => s

/-- The stop that a cause of a category makes from the present state (R140, R145, R146). -/
def applyStop (cat : Category) (s : State) : State :=
  match s.seq.state with
  | .ready => stopFromReady cat s
  | .primed => stopFromFlight cat s
  | .flying => stopFromFlight cat s
  | .parking => stopFromFlight cat s
  | .stopping => stopFromStopping cat s
  | .stopped => stopFromStopped cat s
  | .start => s
  | .locked => s

/-- Whether the cause opens the record or changes the category in force (R141). In READY, PRIMED,
FLYING and PARKING it opens the record; in STOPPING and STOPPED the category may change. -/
def changesCategory (cat : Category) (s : State) : Bool :=
  match s.seq.state with
  | .ready => true
  | .primed => true
  | .flying => true
  | .parking => true
  | .stopping => cat == .immediate || cat == .assist
  | .stopped =>
    match s.stop.category, cat with
    | .controlled, .immediate => true
    | .controlled, .assist => true
    | .assist, .immediate => true
    | _, _ => false
  | .start => false
  | .locked => false

/-- A cause is recorded and acts by its category, with no STOP frame: what R156 asks for the causes of
the start-up, and the first half of every other intake. -/
def intake (c : FaultCode) (src : Nat) (s : State) : State :=
  applyStop c.category (s.withStop (s.stop.record c src))

/-- Taking a cause: in START and LOCKED none is taken; elsewhere it is recorded, it starts or changes
the stop, and a STOP frame is requested where Table 9-2 marks the cause as sent and the cause opens
the record or changes the category (R138 to R141, R145, R146). -/
def takeCause (c : FaultCode) (src : Nat) (s : State) : State :=
  if s.seq.state.operating then
    if c.sent && changesCategory c.category s then
      requestSlot .stop (stopBody s.ownGroup c.code s.own) (intake c src s)
    else intake c src s
  else s

/-- DUPLICATE_STATION (R152): taken as an immediate cause; the first one also requests the all-group
STOP, sets lock pending and the lock cause. -/
def takeDuplicate (s : State) : State :=
  let s1 := takeCause .duplicateStation s.own s
  if s.stop.lockPending then s1
  else
    let s2 := requestSlot .stop (stopBody 0 FaultCode.duplicateStation.code s.own) s1
    s2.withStop { s2.stop with lockPending := true, lockCause := .duplicateStation }

/-! ### Entry to PARKING and to LOCKED -/

/-- Entry to PARKING (R20): the governor's applied advance becomes 0, the Line Loop takes Park. -/
def enterParking (s : State) : State :=
  parkRequest ((toState .parking s).withGov { s.gov with dPrev := 0 })

/-- Entry to LOCKED (R4, R157): the record stays frozen, the slots empty (R35), the mark requested
flag clears (R53), the Line Loop takes Lock (R117), the lamp's pattern begins with its on half
(R158). -/
def enterLocked (s : State) : State :=
  let s1 := lockRequest (toState .locked s)
  ((s1.withStop { s1.stop with
      assist := false, lockPending := false, blinkOn := true, blinkClk := 0 }).withLink
    { s1.link with stopSlot := {}, markSlot := {}, reportSlot := {}, txFrame := [] }).withClock
    { s1.clock with markRequested := false }

end Sys2Proof.Machine
end

