-- ==== Sys2Proof/Machine/PathReads.lean ====
section
/-!
DEFINITION. What a read of the Path Store returns (chapter 5): the directory, the segments of a cue,
the exclusion entries of a cue, the fingerprint sequence.
-/

namespace Sys2Proof.Machine

/-- The directory's answer for a cue number: absent for 32 and above, 255 included (R72). -/
def PathStore.entry (p : PathStore) (c : Nat) : Option CueEntry := (p.directory.getD c none)

/-- The record at an index of the segment store. The store holds every record a present entry names
(R72); past its end the reading of a record of zeros has no rule (assumption log 19). -/
def PathStore.recordAt (p : PathStore) (i : Nat) : Segment := p.segments.getD i default

/-- The start length La of segment `j` of a cue (R74). -/
def PathStore.startLength (p : PathStore) (e : CueEntry) (j : Nat) : Nat :=
  if j = 0 then e.l0 else (p.recordAt (e.f + j - 1)).lb

/-- Segment `j` of a cue: its record (R74, R81). -/
def PathStore.cueSegment (p : PathStore) (e : CueEntry) (j : Nat) : Segment := p.recordAt (e.f + j)

/-- The entries of the exclusion table whose own cue is `c` (R78). -/
def PathStore.exclusionsOf (p : PathStore) (c : Nat) : List Exclusion :=
  p.exclusions.filter fun x => x.ownCue == c

/-- The current cue's entry. A computation is made only with a current cue that is present (R89,
R11); an absent one reads as an entry of zeros, which has no rule (assumption log 19). -/
def State.currentEntry (s : State) : CueEntry := (s.path.entry s.gov.cue).getD default

/-- The cue end N x 65536 of the current cue (R83). -/
def State.cueEnd (s : State) : Nat := s.currentEntry.n * 65536

/-- The profile's image byte (R79, R167). -/
def Profile.byte : Profile → Byte
  | .linear => 0#8
  | .ease => 1#8

/-- The bytes of one cue in the fingerprint sequence: N, then T and profile of each segment (R79). -/
def PathStore.cueBytes (p : PathStore) (c : Nat) : List Byte :=
  match p.entry c with
  | none => [0#8]
  | some e =>
    BitVec.ofNat 8 e.n :: (List.range e.n).flatMap fun j =>
      bytes2 (p.cueSegment e j).t ++ [(p.cueSegment e j).profile.byte]

/-- The byte sequence of the cue timing fingerprint (R79). -/
def PathStore.fingerprintBytes (p : PathStore) (roster : List Byte) : List Byte :=
  roster ++ (List.range Config.cues).flatMap p.cueBytes

/-- The cue timing fingerprint (R79). -/
def PathStore.computeFingerprint (p : PathStore) (roster : List Byte) : Word16 :=
  crc16 (p.fingerprintBytes roster)

end Sys2Proof.Machine
end

