-- ==== Sys2Proof/Machine/PeerViews.lean ====
section
/-!
DEFINITION. The Peer Table (chapter 4): presence, ageing, the member and airspace views, the taking
of a REPORT, and the exclusion test of R10.
-/

namespace Sys2Proof.Machine

/-! ### Presence (R56) -/

/-- The presence of a peer row, from its report part and its age (Table 4-1). -/
def Row.peerPresence (lostLimit : Nat) (r : Row) : Presence :=
  match r.report with
  | none => .silent
  | some _ => if r.age ≤ 2 then .fresh else if r.age < lostLimit then .stale else .lost

/-- The presence of a row: the own row is FRESH (R55, R56). -/
def State.presence (s : State) (r : Row) : Presence :=
  if r.station = s.own then .fresh else r.peerPresence s.params.lostLimit

/-- The row is a peer row: not the own row (R54). -/
def State.isPeer (s : State) (r : Row) : Bool := r.station != s.own

/-- The row is a member row: a peer row of the own group (R64). -/
def State.isMember (s : State) (r : Row) : Bool := s.isPeer r && r.group == s.ownGroup

/-- The member rows, in order of station number (R64). -/
def State.members (s : State) : List Row := s.peers.rows.filter s.isMember

/-- The airspace view: peer rows of other groups that are FRESH or STALE (R70). -/
def State.airspace (s : State) : List Row :=
  s.peers.rows.filter fun r =>
    s.isPeer r && r.group != s.ownGroup &&
      (s.presence r == .fresh || s.presence r == .stale)

/-- A station state shown by a report part (R60: a code outside 1 to 6 matches no state). -/
def Report.shows (r : Report) (st : StationState) : Bool :=
  st.operating && r.stateCode.toNat == st.code

/-! ### Making the rows (R55) -/

/-- The rows made from a roster: one for each WINCH, in order of station number, age 0, no report
part (R54, R55). -/
def rowsOfRoster (roster : List Byte) : List Row :=
  ((List.range Config.stations).filter fun i => rosterRole (roster.getD i 0#8) == .winch).map fun i =>
    { station := i, group := rosterGroup (roster.getD i 0#8) }

/-! ### PEER_STALE (R66) -/

/-- At least one member row is STALE. -/
def State.memberStale (s : State) : Bool := s.members.any fun r => s.presence r == .stale

/-- The Peer Table writes PEER_STALE into the hold-reason set (R66). DESIGN CHOICE, unsafe: it does so in every station
state, in START's listen window, where R85 lets the reset values hold (assumption log 27), and in LOCKED, where R99
freezes the set (assumption log 20). -/
def recomputePeerStale (s : State) : State :=
  s.withGov { s.gov with holds := { s.gov.holds with peerStale := s.memberStale } }

/-! ### Ageing at a cycle start (R57, R68) -/

/-- Ageing by one: every peer row that is not SILENT, saturating at 255 (R57). -/
def State.ageRow (s : State) (r : Row) : Row :=
  if s.isPeer r && r.report.isSome then { r with age := min 255 (r.age + 1) } else r

/-- The row becomes LOST by this ageing (R68). -/
def State.becomesLost (s : State) (r : Row) : Bool :=
  s.isMember r && s.presence r != .lost && s.presence (s.ageRow r) == .lost

/-- The Peer Table's rows age. The members that become LOST while the own state, tested here once, is
PRIMED, FLYING or PARKING wait for their LOST_MEMBER (R57, R68). -/
def agePeers (s : State) : State :=
  s.withPeers {
    rows := s.peers.rows.map s.ageRow
    lostDue :=
      if s.seq.state.inFlight then
        (s.peers.rows.filter s.becomesLost).map fun r => r.station
      else [] }

/-! ### Contributions (R65) -/

/-- A member's contribution to the least achieved progress (Table 4-3). -/
def State.contribution (s : State) (r : Row) : Nat :=
  match r.report with
  | none => 0
  | some p =>
    if p.cue.toNat = s.gov.cue then
      if p.shows .primed || p.shows .flying || p.shows .parking then p.achieved.toNat
      else if p.shows .ready && flagComplete p.flags then s.cueEnd
      else 0
    else 0

/-- The least achieved progress: the own and every member's (R93). -/
def State.leastAchieved (s : State) : Nat :=
  (s.members.map s.contribution).foldl min s.gov.achieved

/-! ### The exclusion test (R10) -/

/-- A row conflicts with an exclusion entry: it is of the entry's other group, that is not the own
group, it is in the airspace view, it shows one of the states, and the entry's cue or any cue (R10). -/
def conflictsWith (states : List StationState) (x : Exclusion) (r : Row) : Bool :=
  r.group == x.otherGroup &&
    match r.report with
    | none => false
    | some p => states.any p.shows && (x.otherCue == 255 || p.cue.toNat == x.otherCue)

/-- The rows of the airspace view that conflict with own cue `c` (R10, R70, R78). -/
def State.conflicts (s : State) (states : List StationState) (c : Nat) : List Row :=
  s.airspace.filter fun r => (s.path.exclusionsOf c).any fun x => conflictsWith states x r

/-! ### Taking a REPORT (R58 to R60, R69) -/

/-- The REPORT is in step: its count is the own count, or one below it (R59). -/
def State.inStep (s : State) (n : Word16) : Bool := n == s.clock.count || n == s.clock.count - 1#16

/-- The sender's row with the REPORT stored: report part present and replaced, age 0 (R60). -/
def storeInRow (sender : Nat) (p : Report) (r : Row) : Row :=
  if r.station = sender then { r with age := 0, report := some p } else r

/-- The sender's row is a member row. -/
def State.memberStation (s : State) (n : Nat) : Bool := s.members.any fun r => r.station == n

/-- An in-step REPORT is stored; PEER_STALE is recomputed; then the member-stopped check raises
MEMBER_STOPPED in PRIMED, FLYING and PARKING (R60, R66, R69). -/
def storeReport (sender : Nat) (p : Report) (s : State) : State :=
  let s1 := recomputePeerStale
    (s.withPeers { s.peers with rows := s.peers.rows.map (storeInRow sender p) })
  if s.memberStation sender && s.seq.state.inFlight && (p.shows .stopping || p.shows .stopped) then
    takeCause .memberStopped sender s1
  else s1

/-- A delivered REPORT: ignored under the own number, discarded out of step, otherwise stored (R58,
R59, R60). -/
def takeReport (sender : Nat) (p : Report) (s : State) : State :=
  if sender = s.own then s
  else if s.inStep p.cycleCount then storeReport sender p s
  else s

/-! ### The own REPORT (R62, R63) -/

/-- The fields of the own REPORT as their owners hold them (Table 4-2). -/
def State.ownReport (s : State) : Report where
  cycleCount := s.clock.count
  stateCode := BitVec.ofNat 8 s.seq.state.code
  cue := BitVec.ofNat 8 s.gov.cue
  achieved := BitVec.ofNat 24 s.gov.achieved
  length := BitVec.ofNat 24 s.len.measured
  tension := BitVec.ofNat 16 s.tens.latched
  holds := s.gov.holds.byte
  flags := flagsByte s.gov.lag s.loop.sat s.clock.unsync s.seq.complete s.stop.assist
  firstFault := BitVec.ofNat 8 (match s.stop.first with | none => 0 | some (c, _) => c.code)
  faultSource := BitVec.ofNat 8 (match s.stop.first with | none => 255 | some (_, src) => src)
  laterFaults := s.stop.later
  refusal := BitVec.ofNat 8 s.seq.refusal.code
  fingerprint := s.path.fingerprint

/-- The own row is composed and the REPORT slot requested with its 22 bytes; in START and LOCKED no
REPORT is composed (R62). -/
def composeReport (s : State) : State :=
  if s.seq.state.operating then
    requestSlot .report s.ownReport.toBytes
      (s.withPeers { s.peers with rows := s.peers.rows.map (storeInRow s.own s.ownReport) })
  else s

end Sys2Proof.Machine
end

