-- ==== Sys2Proof/Machine/Governor.lean ====
section
/-!
DEFINITION. The cycle computation: the nine stages of the Progress Governor (chapter 6), the line
target, the speed command and the PWM duty of the Line Loop (chapter 7).
-/

namespace Sys2Proof.Machine

/-! ### Stages 1 to 5: how far to move -/

/-- Stage 1, the nominal advance: 65536 / T rounded half up (R90). -/
def nominalAdvance (t : Nat) : Nat := (65536 + t / 2) / t

/-- Stage 2, the wanted advance in FLYING (R90). -/
def wantedAdvance (held : Bool) (rate dNom : Nat) : Nat :=
  if held then 0 else min 65536 ((dNom * rate + 64) / 128)

/-- Stage 3, the ramp: the wanted advance clamped to [max(0, d_prev - A), d_prev + A] (R91). -/
def rampedAdvance (a dPrev dWant : Nat) : Nat := max (dPrev - a) (min dWant (dPrev + a))

/-- Stage 4, the boundary clamp (R92). -/
def boundaryClamp (k q dRamp : Nat) : Nat :=
  if 65536 ≤ (q - k * 65536) + dRamp then (k + 1) * 65536 else q + dRamp

/-- Stage 5, the lead cap (R93). -/
def leadCap (q qTry qMin w : Nat) : Nat := max q (min qTry (qMin + w))

/-- Stage 7, the segment index after the hand-over (R82, R94). -/
def handover (k n qNew : Nat) : Nat := if qNew = (k + 1) * 65536 ∧ k + 1 < n then k + 1 else k

/-! ### The line target -/

/-- The EASE share (R103): three truncations, then the clamp. -/
def easeShare (u : Nat) : Nat :=
  let u2 := u * u / 65536
  let u3 := u2 * u / 65536
  min (3 * u2 - 2 * u3) 65536

/-- The share f of the segment's length change at fraction u (R103, R75). -/
def share (p : Profile) (u : Nat) : Nat :=
  match p with
  | .linear => u
  | .ease => easeShare u

/-- The line target on a segment (R104); the floor rounds toward minus infinity. -/
def lineTarget (la lb f : Nat) : Nat :=
  ((la : Int) + (((lb : Int) - (la : Int)) * (f : Int) + 32768) / 65536).toNat

/-- The line target at commanded progress `q` on segment `k` of the current cue (R104, R81). -/
def State.targetAt (s : State) (k q : Nat) : Nat :=
  let e := s.currentEntry
  let g := s.path.cueSegment e k
  lineTarget (s.path.startLength e k) g.lb (share g.profile (q - k * 65536))

/-! ### The speed command -/

/-- The position term P (R108). -/
def positionTerm (kp shift : Nat) (e : Int) : Int :=
  if shift = 0 then (kp : Int) * e
  else ((kp : Int) * e + (2 ^ (shift - 1) : Nat)) / ((2 ^ shift : Nat) : Int)

/-- The sum P + 10 ΔL before its clamp (R108). -/
def rawSpeed (kp shift : Nat) (e dl : Int) : Int := positionTerm kp shift e + 10 * dl

/-- The clamp to [-V_max, +V_max] (R108). -/
def clampSpeed (vMax : Nat) (v : Int) : Int := max (-(vMax : Int)) (min v (vMax : Int))

/-- The PWM duty of a speed command (R110). -/
def pwmDutyOf (vMax : Nat) (v : Int) : Nat :=
  (512 + (1022 * v + (vMax : Int)) / (2 * (vMax : Int))).toNat

/-- The Line Loop's work at one length sample with the given target: the error, the speed command with
its clamp and SAT, the duty; then the previous target takes the target used (R106 to R110). With
`entering`, the previous target is first set equal to the target (R106, R14). -/
def speedCommand (target : Nat) (entering : Bool) (s : State) : State :=
  let e : Int := (target : Int) - (s.len.measured : Int)
  let dl : Int := (target : Int) - ((if entering then target else s.loop.prevTarget) : Int)
  let raw := rawSpeed s.params.kp s.params.shiftS e dl
  let v := clampSpeed s.params.vMax raw
  s.withLoop { s.loop with
    target := target
    prevTarget := target
    err := e
    speed := v
    sat := s.loop.sat || raw != v
    duty := pwmDutyOf s.params.vMax v }

/-! ### The computation -/

/-- Stages 1 to 6: the new commanded progress. In the path stop the wanted advance is 0 and the ramp
step is A_stop (R98). -/
def State.newProgress (s : State) (stopping : Bool) : Nat :=
  let g := s.path.cueSegment s.currentEntry s.gov.k
  let dWant :=
    if stopping then 0 else wantedAdvance s.gov.holds.any s.gov.rate (nominalAdvance g.t)
  let a := if stopping then s.params.stopA else s.params.rampA
  let dRamp := rampedAdvance a s.gov.dPrev dWant
  leadCap s.gov.q (boundaryClamp s.gov.k s.gov.q dRamp) s.leastAchieved s.params.leadW

/-- Stages 1 to 7: the governor has moved its commanded progress, its applied advance and its segment
index. -/
def moveProgress (stopping : Bool) (s : State) : State :=
  let qNew := s.newProgress stopping
  s.withGov { s.gov with
    q := qNew
    dPrev := qNew - s.gov.q
    k := handover s.gov.k s.currentEntry.n qNew }

/-- Stage 9 without its fault: achieved progress and LAG from the error (R94). -/
def judgeFollow (s : State) : State :=
  if s.loop.err.natAbs ≤ s.params.followTol then
    s.withGov { s.gov with achieved := s.gov.q, lag := false }
  else s.withGov { s.gov with lag := true }

/-- FOLLOW_TRIP of stage 9: the error above the trip tolerance (R94). -/
def judgeTrip (s : State) : State :=
  if s.params.tripTol < s.loop.err.natAbs then takeCause .followTrip s.own s else s

/-- One cycle computation, stages 1 to 9, with the speed command formed at stage 8 (R89 to R94, R98,
R107). -/
def cycleComputation (stopping entering : Bool) (s : State) : State :=
  let s1 := moveProgress stopping s
  let s2 := speedCommand (s1.targetAt s1.gov.k s1.gov.q) entering s1
  judgeTrip (judgeFollow s2)

/-- The Stop Controller's test after a path-stop computation: with d of 0 and the error within the
follow tolerance, RAMPING becomes SETTLING and the Line Loop is asked for Settle (R142). -/
def settleTest (s : State) : State :=
  if s.seq.state = .stopping ∧ s.stop.phase = .ramping ∧ s.gov.dPrev = 0 ∧
      s.loop.err.natAbs ≤ s.params.followTol then
    settleRequest (s.withStop { s.stop with phase := .settling })
  else s

/-- The governor's and the Line Loop's work at a length sample, by the state in which the Sequencer has
left the station (R89, R107): a computation in FLYING and STOPPING, a speed command alone with the
drive enabled in PRIMED, PARKING and STOPPED, nothing with the drive disabled. DESIGN CHOICE, unsafe: an Assist
request that this sample's own checks have made before this work is served by a command of this sample (R107, R119),
not of the one after it, which R111's "next length sample" allows too (assumption log 30). -/
def loopWork (entering : Bool) (s : State) : State :=
  match s.seq.state with
  | .flying => cycleComputation false entering s
  | .stopping => settleTest (cycleComputation true false s)
  | .primed => if s.loop.drive then speedCommand s.loop.target false s else s
  | .parking => if s.loop.drive then speedCommand s.loop.target false s else s
  | .stopped => if s.loop.drive then speedCommand s.loop.target false s else s
  | .start => s
  | .ready => s
  | .locked => s

end Sys2Proof.Machine
end

