-- ==== Sys2Proof/Machine/Sequence.lean ====
section
/-!
DEFINITION. The Station Sequencer's work (chapter 1): the checks of a GO and its acceptance, the
airspace re-check and the test for flight in PRIMED, the test for completion in FLYING.
-/

namespace Sys2Proof.Machine

/-- The state with another refusal code. -/
def refuse (code : RefusalCode) (s : State) : State := s.withSeq { s.seq with refusal := code }

/-- Check 4: a member row that is not FRESH or does not show READY (R9). -/
def State.memberNotReady (s : State) (r : Row) : Bool :=
  !(s.presence r == .fresh && match r.report with | none => false | some p => p.shows .ready)

/-- Check 5: a member's fingerprint differs from the own (R9). -/
def State.memberFingerprintDiffers (s : State) (r : Row) : Bool :=
  match r.report with
  | none => true
  | some p => p.fingerprint != s.path.fingerprint

/-- The six checks of a GO for cue `c`, in order: the entry of the cue if all pass, otherwise the
refusal code of the first that fails (Table 1-5, R6 to R10). -/
def State.goChecks (s : State) (c : Nat) : Except RefusalCode CueEntry :=
  if s.seq.state ≠ .ready then .error .busy
  else match s.path.entry c with
    | none => .error .noCue
    | some e =>
      if s.params.startTol < ((s.len.measured : Int) - (e.l0 : Int)).natAbs then .error .startPosition
      else if s.members.any s.memberNotReady then .error .groupNotReady
      else if s.members.any s.memberFingerprintDiffers then .error .fingerprint
      else if (s.conflicts [.primed, .flying, .parking] c) ≠ [] then .error .airspace
      else .ok e

/-- Acceptance of a GO (R11, R13, R100): refusal NONE, COMPLETE and SAT and LAG clear, the cue current
at progress 0, PRIMED with the prime timer at 0, the Prime request. -/
def acceptGo (c : Nat) (e : CueEntry) (s : State) : State :=
  primeRequest e.l0 { s with
    seq := { state := .primed, refusal := .noRefusal, primeTimer := 0, complete := false }
    loop := { s.loop with sat := false }
    gov := { s.gov with cue := c, q := 0, k := 0, dPrev := 0, achieved := 0, lag := false } }

/-- A delivered GO for group `g` and cue `c` (R5, R6, R11). -/
def takeGo (g c : Nat) (s : State) : State :=
  if s.seq.state.operating && g == s.ownGroup then
    match s.goChecks c with
    | .error code => refuse code s
    | .ok e => acceptGo c e s
  else s

/-- A conflicting row that makes this station yield: it shows FLYING, or it shows PRIMED and belongs
to a lower-numbered group (R16). -/
def State.yieldsTo (s : State) (r : Row) : Bool :=
  match r.report with
  | none => false
  | some p => p.shows .flying || (p.shows .primed && decide (r.group < s.ownGroup))

/-- The airspace re-check abandons the prime (R16). -/
def State.mustAbandon (s : State) : Bool :=
  (s.conflicts [.primed, .flying] s.gov.cue).any s.yieldsTo

/-- A member row allows flight: FRESH, the current cue, PRIMED or FLYING (R14). -/
def State.memberAllowsFlight (s : State) (r : Row) : Bool :=
  s.presence r == .fresh &&
    match r.report with
    | none => false
    | some p => p.cue.toNat == s.gov.cue && (p.shows .primed || p.shows .flying)

/-- The conditions of flight (R14). -/
def State.mayFly (s : State) : Bool :=
  s.loop.brakeSample == .released && s.members.all s.memberAllowsFlight

/-- The Sequencer's work at a length sample in PRIMED: the re-check, and if the prime is not abandoned
the test for flight (R14, R16). -/
def primedWork (s : State) : State :=
  if s.seq.state = .primed then
    if s.mustAbandon then enterParking (refuse .airspace s)
    else if s.mayFly then toState .flying s
    else s
  else s

/-- The Sequencer's test for completion in FLYING (R19, R95). -/
def completionTest (s : State) : State :=
  if s.seq.state = .flying ∧ s.gov.achieved = s.cueEnd then
    enterParking (s.withSeq { s.seq with complete := true })
  else s

end Sys2Proof.Machine
end

