-- ==== Sys2Proof/Machine/Measure.lean ====
section
/-!
DEFINITION. Length and tension (chapter 8): the judging of an encoder word, the tension sample and the
tension latch, the Load Monitor, the Creep Watch, the whole length sample, the local inputs and the
whole strobe.
-/

namespace Sys2Proof.Machine

/-! ### The encoder read (R121 to R124) -/

/-- The magnitude of a count: rounded half up (R123). -/
def lengthMagnitude (kScale count : Nat) : Nat := (count * kScale + 32768) / 65536

/-- The length of a count, before its range check (R123). -/
def Params.lengthOf (p : Params) (count : Nat) : Int :=
  if p.dirNegative then (p.lZero : Int) - (lengthMagnitude p.kScale count : Int)
  else (p.lZero : Int) + (lengthMagnitude p.kScale count : Int)

/-- The largest line length (Table 0-4). -/
def maxLength : Nat := 999999

/-- What the reader makes of a completed word (R122, R123). -/
inductive ReadOutcome where
  | good (length : Nat)
  | failed
  | outOfRange
  deriving DecidableEq, Repr

/-- The reader judges and converts a word (R122, R123). -/
def Params.judgeWord (p : Params) (w : EncoderWord) : ReadOutcome :=
  if encoderWordFailed w then .failed
  else
    let l := p.lengthOf (encoderCount w)
    if 0 ≤ l ∧ l ≤ (maxLength : Int) then .good l.toNat else .outOfRange

/-- The reader keeps the count of a word that it converts (Table 0-3, R122, assumption log 26). -/
def LengthReader.keepCount (x : LengthReader) (w : EncoderWord) : LengthReader :=
  if encoderWordFailed w then x else { x with lastCount := encoderCount w }

/-- The Length Reader after a completed read (R123, R124); read in progress becomes no (R121). -/
def LengthReader.afterRead (x : LengthReader) (o : ReadOutcome) : LengthReader :=
  match o with
  | .good l => { x with measured := l, failures := 0, lastResult := .good, reading := false }
  | .failed => { x with failures := min 2 (x.failures + 1), lastResult := .failed, reading := false }
  | .outOfRange => { x with failures := min 2 (x.failures + 1), lastResult := .failed, reading := false }

/-- The read raises ENCODER: at a failed read that follows a failed one, and at every out-of-range
read (R123, R124). -/
def raisesEncoder (failuresBefore : Nat) (o : ReadOutcome) : Bool :=
  match o with
  | .good _ => false
  | .failed => decide (1 ≤ failuresBefore)
  | .outOfRange => true

/-- The read completes: the word is judged, the reader's items are set, and ENCODER is raised where
R123 or R124 say so; `takeCause` takes none in START and LOCKED. -/
def completeRead (w : EncoderWord) (s : State) : State :=
  let o := s.params.judgeWord w
  let s1 := s.withLen ((s.len.keepCount w).afterRead o)
  if raisesEncoder s.len.failures o then takeCause .encoder s.own s1 else s1

/-! ### The Tension Filter (R126 to R128) -/

/-- The filter with one more sample: the first one after the request fills every entry (R126), each
later one joins as the newest and the oldest leaves (R127). -/
def TensionFilter.sample (f : TensionFilter) (m : Nat) (x : Int) : TensionFilter :=
  if f.started then
    { f with line := f.line.tail ++ [x], sum := f.sum - f.line.headD 0 + x }
  else
    { f with line := List.replicate (2 ^ m) x, sum := (2 ^ m : Nat) * x, started := true }

/-- The rounded average of the delay line (R128). -/
def tensionAverage (m : Nat) (sum : Int) : Int :=
  if m = 0 then sum else (sum + (2 ^ (m - 1) : Nat)) / ((2 ^ m : Nat) : Int)

/-- The tension in newtons: offset, gain, rounding, clamp to 0..65535 (R128). -/
def tensionOf (p : Params) (sum : Int) : Nat :=
  (min 65535 (max 0 (((tensionAverage p.m sum + p.tOffset) * (p.gain : Int) + 2048) / 4096))).toNat

/-- The latch at a cycle start, once the filter has started (R128). -/
def latchTension (s : State) : State :=
  if s.tens.started then s.withTens { s.tens with latched := tensionOf s.params s.tens.sum } else s

/-! ### The Load Monitor (R129 to R132) -/

/-- The tensions of the members whose rows have a report part, in any presence (R130). -/
def State.memberTensions (s : State) : List Nat :=
  s.members.filterMap fun r => r.report.map fun p => p.tension.toNat

/-- SLACK as evaluated in PRIMED and FLYING (R130). -/
def State.slackNow (s : State) : Bool :=
  decide (s.tens.latched < s.params.tSlack) ||
    s.memberTensions.any fun t => decide (t < s.params.tSlack)

/-- The group load (R130). -/
def State.groupLoad (s : State) : Nat := s.tens.latched + s.memberTensions.sum

/-- LOAD_BAND as evaluated in PRIMED and FLYING (R130). -/
def State.bandNow (s : State) : Bool :=
  decide (s.groupLoad < s.params.gLo) || decide (s.params.gHi < s.groupLoad)

/-- The Load Monitor evaluates its two reasons: in PRIMED and FLYING only (R130). -/
def State.evaluatesLoad (s : State) : Bool :=
  s.seq.state == .primed || s.seq.state == .flying

/-- The hold-reason set with the Load Monitor's two reasons written (R130). -/
def State.loadHolds (s : State) : Holds :=
  { s.gov.holds with
    slack := s.evaluatesLoad && s.slackNow
    loadBand := s.evaluatesLoad && s.bandNow }

/-- The slack counter after the check (R131). -/
def State.slackCount (s : State) : Nat :=
  if s.seq.state = .flying ∧ s.slackNow then min s.params.slackLimit (s.load.slackCounter + 1) else 0

/-- The Load Monitor's checks, made in the state in which they find the station: the hold reasons and
the slack counter, then OVERLOAD (R129, R130, R131; the order is assumption log 13). That the counter stands at the
limit is noted for SLACK_TIMEOUT. -/
def loadCheck (s : State) : State :=
  let s1 := (s.withGov { s.gov with holds := s.loadHolds }).withLoad {
    slackCounter := s.slackCount
    slackDue := decide (s.seq.state = .flying) && decide (s.params.slackLimit ≤ s.slackCount) }
  if s.seq.state.operating && s.seq.state != .stopped && decide (s.params.tMax < s.tens.latched) then
    takeCause .overload s.own s1
  else s1

/-- SLACK_TIMEOUT: the slack counter was found at the slack limit in FLYING (R131). -/
def slackTimeoutWork (s : State) : State :=
  if s.load.slackDue then
    takeCause .slackTimeout s.own (s.withLoad { s.load with slackDue := false })
  else s

/-- The Load Monitor at its point of the sample: the cause of a counter at its limit is raised there (R131, R89,
R62). After the own REPORT nothing of the sample is left for it to act on, and the cause is the row SLACK_TIMEOUT of
the table, a step of its own (assumption log 4). -/
def loadMonitorAt (here : CheckPoint) (s : State) : State :=
  if here = .afterReport then loadCheck s else slackTimeoutWork (loadCheck s)

/-! ### The Creep Watch's check (R134) -/

/-- The Creep Watch's check in READY and STOPPED, while armed (R134). -/
def creepCheck (s : State) : State :=
  if (s.seq.state == .ready || s.seq.state == .stopped) && s.creep.armed &&
      decide (s.params.creepLimit < ((s.len.measured : Int) - (s.creep.reference : Int)).natAbs) then
    takeCause .brakeSlip s.own s
  else s

/-! ### The length sample (R125) -/

/-- The checks that the sender places at a point of the sample: the Load Monitor's, then the Creep
Watch's. -/
def checksAt (here load creep : CheckPoint) (s : State) : State :=
  let s1 := if here = load then loadMonitorAt here s else s
  if here = creep then creepCheck s1 else s1

/-- The per-cycle work of a length sample, in READY, PRIMED, FLYING, PARKING, STOPPING and STOPPED
(R125): the Sequencer's tests, the computation and the speed command, the test for completion, the
composition of the own REPORT, with the checks at their points. The station enters FLYING at this
sample when the Sequencer's tests move it there. -/
def cycleWork (load creep : CheckPoint) (s : State) : State :=
  let s1 := checksAt .beforeSequencer load creep s
  let s2 := primedWork s1
  let entering := s1.seq.state == .primed && s2.seq.state == .flying
  let s3 := checksAt .beforeComputation load creep s2
  let s4 := loopWork entering s3
  let s5 := checksAt .beforeCompletion load creep s4
  let s6 := completionTest s5
  let s7 := checksAt .beforeReport load creep s6
  let s8 := composeReport s7
  checksAt .afterReport load creep s8

/-- The length sample: the completion of the read in progress, then the per-cycle work, which START
and LOCKED do not have (R125). With no read in progress there is nothing to complete (assumption log
5). -/
def lengthSampleWork (w : EncoderWord) (load creep : CheckPoint) (s : State) : State :=
  if s.len.reading then
    let s1 := completeRead w s
    if s1.seq.state.operating then cycleWork load creep s1 else s1
  else s

/-! ### The local inputs (R149, R150) -/

/-- The filter time of a dip filter code, in microseconds (Table 9-5). -/
def dipFilterTime (code : Nat) : Nat :=
  match code with
  | 0 => 0
  | 1 => 250
  | 2 => 500
  | _ => 1000

/-- A cause raised where its condition holds. -/
def raiseIf (cond : Bool) (c : FaultCode) (s : State) : State :=
  if cond then takeCause c s.own s else s

/-- SUPPLY_DIP's condition at a strobe (R150). -/
def State.dipRaises (s : State) : Bool :=
  s.dipLevel && decide (dipFilterTime s.params.dipCode ≤ s.stop.dipTimer)

/-- The Stop Controller's samples at a strobe: the latch is captured and cleared, the three levels are
kept (R149, R150, R153). -/
def sampleInputs (i : StrobeInputs) (s : State) : State :=
  s.withStop { s.stop with
    localLatch := false, lstopSample := i.lstop, dipSample := s.dipLevel, dfltSample := i.dflt }

/-- The Stop Controller at a strobe: LOCAL_STOP, then SUPPLY_DIP, then DRIVE_FAULT, each where its
condition holds; in START and LOCKED nothing is raised (R149, R150, R138). -/
def localInputs (i : StrobeInputs) (s : State) : State :=
  raiseIf i.dflt .driveFault
    (raiseIf s.dipRaises .supplyDip
      (raiseIf (s.stop.localLatch || i.lstop) .localStop (sampleInputs i s)))

/-! ### The brake supervision at a strobe (R113, R114, R116) -/

/-- The fault of a brake that does not follow its command (R115). -/
def brakeFault (c : BrakeCommand) : FaultCode :=
  match c with
  | .release => .brakeNotReleased
  | .set => .brakeNotSet

/-- The supervision fails: FAILED, and the fault of the command is raised (R115, R116). -/
def failBrake (s : State) : State :=
  takeCause (brakeFault s.loop.brake) s.own (s.withLoop { s.loop with supervision := .failed })

/-- The Line Loop's sample of BRKFB (R113): while WAITING a match confirms (R114), while MATCHED a
mismatch fails the brake (R116), in IDLE and FAILED the sample is kept and not acted on. -/
def brakeSampleWork (f : Feedback) (s : State) : State :=
  let s1 := s.withLoop { s.loop with brakeSample := f }
  match s.loop.supervision with
  | .waiting => if feedbackMatches s.loop.brake f then confirmBrake s1 else s1
  | .matched => if feedbackMatches s.loop.brake f then s1 else failBrake s1
  | .idle => s1
  | .failed => s1

/-! ### The strobe -/

/-- The samples of a phase of the shunt span check (Table 8-7). -/
def ShuntPhase.samples : ShuntPhase → Nat
  | .settleIn => 64
  | .measure => 32
  | .settleOut => 64

/-- The shunt span check counts the sample, and sums it raw in the Measure phase (R136). -/
def ImageLoader.countSample (l : ImageLoader) (x : Int) : ImageLoader :=
  if l.progress = .shunt then
    { l with
      shuntCount := l.shuntCount + 1
      shuntSum := if l.shuntPhase = .measure then l.shuntSum + x else l.shuntSum }
  else l

/-- The tension sample of a strobe: taken once the shunt span check has been requested (R126, R127). -/
def tensionSampleWork (x : Int) (s : State) : State :=
  if s.tens.requested then
    (s.withTens (s.tens.sample s.params.m x)).withLoader (s.loader.countSample x)
  else s

/-- The work of one 2 kHz strobe: the tension sample, BRKFB and the local inputs (R127, R113, R149,
R150); the last two in the order the sender names (assumption log 11). -/
def strobeWork (i : StrobeInputs) (localFirst : Bool) (s : State) : State :=
  let s1 := tensionSampleWork i.tension.toInt s
  if localFirst then brakeSampleWork i.brkfb (localInputs i s1)
  else localInputs i (brakeSampleWork i.brkfb s1)

end Sys2Proof.Machine
end

