-- ==== Sys2Proof/Machine/Clock.lean ====
section
/-!
DEFINITION. The Cycle Clock (chapter 3): the cycle start and what it does in every block (R43), the
MARK's due time, the free-running start, the taking of a MARK.
-/

namespace Sys2Proof.Machine

/-- The prime timer at a cycle start (R17). -/
def tickPrime (s : State) : State :=
  if s.seq.state = .primed then s.withSeq { s.seq with primeTimer := s.seq.primeTimer + 1 } else s

/-- The stop timer at a cycle start (R144). -/
def tickStop (s : State) : State :=
  if s.seq.state = .stopping then s.withStop { s.stop with stopTimer := s.stop.stopTimer + 1 } else s

/-- The brake supervision timer at a cycle start (R113). -/
def tickBrake (s : State) : State :=
  if s.loop.supervision = .waiting then s.withLoop { s.loop with supTimer := s.loop.supTimer + 1 } else s

/-- The enable age at a cycle start, saturating at 255 (R87). -/
def tickEnable (s : State) : State :=
  s.withGov { s.gov with enableAge := min 255 (s.gov.enableAge + 1) }

/-- The listen counter at a cycle start (R164). -/
def tickListen (s : State) : State :=
  if s.loader.progress = .listen then
    s.withLoader { s.loader with listenCounter := min 64 (s.loader.listenCounter + 1) }
  else s

/-- The cycle start event in the blocks of R43: the encoder read begins (R121), the tension is latched
(R128), the rows age (R57), the cycle-counted timers advance. What a timer's arrival at its limit
calls for, and the Peer Table's checks after ageing, are the steps of their own rows (assumption
log 4). -/
def cycleStart (s : State) : State :=
  tickListen (tickEnable (tickBrake (tickStop (tickPrime (agePeers (latchTension
    (s.withLen { s.len with reading := true })))))))

/-- The own MARK is withdrawn if it is requested, and the flag clears (R47, R49, R34). -/
def withdrawMark (s : State) : State :=
  if s.clock.markRequested then
    (s.withLink { s.link with markSlot := s.link.markSlot.withdraw }).withClock
      { s.clock with markRequested := false }
  else s

/-- A cycle start that sets the count and UNSYNC and puts the timer to 0 (R47, R49). -/
def startCycle (count : Word16) (unsync : Bool) (s : State) : State :=
  let s1 := withdrawMark s
  cycleStart (s1.withClock { s1.clock with count := count, unsync := unsync, timer := 0 })

/-- The Cycle Clock takes a MARK: a cycle start at 3000 microseconds or more (R47), otherwise an early
mark, which changes nothing (R46, R48). While the timer is held no MARK is delivered (R42). -/
def takeMark (carried : Word16) (s : State) : State :=
  if s.clock.running && decide (earlyMarkLimit ≤ s.clock.timer) then startCycle carried false s else s

/-- Whether the clock may request a MARK: in the operating states, with the timer running and the flag
clear (R44). -/
def State.mayRequestMark (s : State) : Bool :=
  s.seq.state.operating && s.clock.running && !s.clock.markRequested

/-- MARK_DUE: the clock runs to the due time (assumption log 3); the MARK slot is requested and the
flag sets (R44). -/
def markDueWork (s : State) : State :=
  if s.mayRequestMark then
    let s1 := requestSlot .mark [] (elapse (s.clocksUntil s.markDueTime) s)
    s1.withClock { s1.clock with markRequested := true }
  else s

/-- FREE_RUNNING_CYCLE_START: the clock runs to 6000 microseconds (assumption log 3); the count
increases by 1 and UNSYNC sets (R49). While the timer is held there is no cycle start (R42). -/
def freeRunWork (s : State) : State :=
  if s.clock.running then
    let s1 := elapse (s.clocksUntil cycleExpiry) s
    startCycle (s1.clock.count + 1#16) true s1
  else s

end Sys2Proof.Machine
end

