-- ==== Sys2Proof/Machine/StartUp.lean ====
section
/-!
DEFINITION. The rigging image and the start-up sequence (chapter 10): the read, the checks of
Table 10-1, the load, the shunt span check, the end of the listen window.
-/

namespace Sys2Proof.Machine

/-! ### The image checks (Table 10-1) -/

/-- A number lies outside a range. -/
def outside (lo hi n : Nat) : Bool := decide (n < lo) || decide (hi < n)

/-- Check 1: the CRC of every byte before the two CRC bytes (R27). -/
def crcFails (img : List Byte) : Bool :=
  field2 img (img.length - 2) != (crc16 (img.take (img.length - 2))).toNat

/-- Check 4: the limits. -/
def limitsFail (p : Params) : Bool :=
  outside 5 250 p.lostLimit || outside 2 250 p.enableLimit || outside 1 250 p.brakeTime ||
    outside 1 250 p.slackLimit || outside 10 1000 p.primeLimit || outside 1 2000 p.stopLimit

/-- Check 5: the governor and loop values. -/
def loopValuesFail (p : Params) : Bool :=
  outside 1 65535 p.leadW || outside 1 65536 p.rampA || outside 1 65536 p.stopA ||
    outside 1 10000 p.followTol || decide (p.tripTol ≤ p.followTol) || outside 1 10000 p.startTol ||
    decide (15 < p.shiftS) || outside 1 4000 p.vMax

/-- Check 7: the load values. -/
def loadValuesFail (p : Params) : Bool :=
  decide (p.tMax ≤ p.tSlack) || decide (p.gHi < p.gLo) || decide (262140 < p.gHi) ||
    decide (5 < p.m) || p.gain == 0 || p.kScale == 0 || decide (maxLength < p.lZero) ||
    outside 1 1000 p.creepLimit || decide (3 < p.dipCode)

/-- A roster byte with an unknown role, a WINCH outside groups 1 to 8, or a NONE or CONSOLE with a
group (check 8). -/
def rosterByteFails (b : Byte) : Bool :=
  decide (2 < b.toNat / 16) ||
    (rosterRole b == .winch && outside 1 8 (rosterGroup b)) ||
    (rosterRole b != .winch && rosterGroup b != 0)

/-- Check 10: a group with more than four roster winches. -/
def groupsFail (roster : List Byte) : Bool :=
  (List.range 9).any fun g =>
    decide (4 < roster.countP fun b => rosterRole b == .winch && rosterGroup b == g)

/-- A cue record of N of 1 or more that breaks check 12. -/
def cueFails (segments : Nat) (e : CueEntry) : Bool :=
  e.n != 0 && (decide (16 < e.n) || decide (segments < e.f + e.n) || decide (maxLength < e.l0))

/-- A segment record that breaks check 13. -/
def segmentFails (img : List Byte) (j : Nat) : Bool :=
  (imageSegment img j).t == 0 || decide (1 < imageProfileByte img j) ||
    decide (maxLength < (imageSegment img j).lb)

/-- An exclusion entry that breaks check 14. -/
def exclusionFails (img : List Byte) (x : Exclusion) : Bool :=
  !(decide (x.ownCue < Config.cues) && (imageEntry img x.ownCue).isSome) ||
    outside 1 8 x.otherGroup || (decide (31 < x.otherCue) && decide (x.otherCue < 255))

/-- The fourteen checks of Table 10-1, in order: true where the check fails. -/
def imageChecks (img : List Byte) : List Bool :=
  [ crcFails img
  , field2 img 0 != 1
  , decide (15 < byteAt img 2)
  , limitsFail (imageParams img)
  , loopValuesFail (imageParams img)
  , decide (3 < byteAt img 30)
  , loadValuesFail (imageParams img)
  , (imageRoster img).any rosterByteFails
  , rosterRole ((imageRoster img).getD (byteAt img 2) 0#8) != .winch
  , groupsFail (imageRoster img)
  , decide (32 < imageExclusionCount img)
  , (List.range Config.cues).any fun c => cueFails (imageSegmentCount img) (imageCue img c)
  , (List.range (imageSegmentCount img)).any (segmentFails img)
  , (List.range (imageExclusionCount img)).any fun i => exclusionFails img (imageExclusion img i) ]

/-- The first check of Table 10-1 that fails, numbered from 1; none for a sound image (R161). -/
def firstFailedCheck (img : List Byte) : Option Nat :=
  ((imageChecks img).findIdx? id).map (· + 1)

/-! ### Failure in START (R156, R161, R163) -/

/-- IMAGE or SELF_CHECK raised by the loader: the load progress becomes FAILED, the record opens, the
lock cause takes the cause's name, the category becomes IMMEDIATE, LOCKED is entered (R156, R4). -/
def lockFromLoader (c : FaultCode) (src : Nat) (cause : LockCause) (s : State) : State :=
  enterLocked
    ((s.withLoader { s.loader with progress := .failed }).withStop
      { s.stop.record c src with category := .immediate, lockCause := cause })

/-- The image fails: IMAGE with source 255; the station number is not taken (R161, R156). -/
def failImage (s : State) : State := lockFromLoader .image 255 .image s

/-! ### The read (R160) -/

/-- MEMORY_READ_START: the clock runs to the end of WAIT (assumption log 3); READ begins, MSEL active,
the read command and a zero address sent (R160). -/
def memoryReadStartWork (s : State) : State :=
  if s.loader.progress = .wait then
    let s1 := elapse (waitClocks - s.loader.waitClk) s
    s1.withLoader { s1.loader with
      progress := .read, msel := true, mdo := [0x03#8, 0x00#8, 0x00#8, 0x00#8], buffer := [] }
  else s

/-- FIXED_BYTES_READ: the 333 fixed bytes are in; a segment count above 256 ends the read and fails the
image (R160, R161). -/
def fixedBytesWork (bytes : List Byte) (s : State) : State :=
  if s.loader.progress = .read ∧ s.loader.buffer = [] ∧ bytes.length = Config.fixedBytes then
    if Config.maxSegments < imageSegmentCount bytes then
      failImage (s.withLoader { s.loader with buffer := bytes, msel := false })
    else s.withLoader { s.loader with buffer := bytes }
  else s

/-- The bytes that are still to come after the fixed bytes: the segment records and the CRC (R160). -/
def restLength (fixed : List Byte) : Nat := Config.segmentBytes * imageSegmentCount fixed + 2

/-- IMAGE_READ_COMPLETE: the last CRC byte is in; MSEL inactive, CHECK (R160). -/
def imageReadWork (bytes : List Byte) (s : State) : State :=
  if s.loader.progress = .read ∧ s.loader.buffer.length = Config.fixedBytes ∧
      bytes.length = restLength s.loader.buffer then
    s.withLoader { s.loader with
      buffer := s.loader.buffer ++ bytes, msel := false, progress := .check }
  else s

/-- A sound image is loaded in one event (R162): the station number, limits and roster, the cue
library, the rows of the Peer Table (R55), the delay line's length (R126), the fingerprint (R79); then
SHUNT with the shunt switch active, and the filter starts at the next strobe (R136). -/
def loadImage (img : List Byte) (s : State) : State :=
  let path := imagePath img
  { s with
    params := imageParams img
    path := { path with fingerprint := path.computeFingerprint (imageRoster img) }
    peers := { rows := rowsOfRoster (imageRoster img), lostDue := [] }
    tens := { s.tens with line := List.replicate (2 ^ byteAt img 41) 0, sum := 0, requested := true }
    loader := { s.loader with
      progress := .shunt, shunt := true, shuntPhase := .settleIn, shuntCount := 0, shuntSum := 0 } }

/-- IMAGE_CHECK_COMPLETE: the checks are complete; the image fails at the first check that fails, and
is loaded if none does (R161, R162). -/
def imageCheckWork (s : State) : State :=
  if s.loader.progress = .check then
    match firstFailedCheck s.loader.buffer with
    | some _ => failImage s
    | none => loadImage s.loader.buffer s
  else s

/-! ### The shunt span check (R136, R163) -/

/-- The phase of the shunt span check has all its samples. -/
def State.shuntPhaseOver (s : State) (p : ShuntPhase) : Bool :=
  s.loader.progress == .shunt && s.loader.shuntPhase == p &&
    decide (p.samples ≤ s.loader.shuntCount)

/-- The check's result: the floored mean of the 32 samples plus the tension offset (R136). -/
def State.shuntResult (s : State) : Int := s.loader.shuntSum / 32 + s.params.tOffset

/-- The result lies within the tolerance of the reference (R136). -/
def State.shuntPasses (s : State) : Bool :=
  decide (s.params.shuntRef - (s.params.shuntTol : Int) ≤ s.shuntResult) &&
    decide (s.shuntResult ≤ s.params.shuntRef + (s.params.shuntTol : Int))

/-- SETTLE_IN_END: after the 64th sample the Measure phase begins (R136). -/
def settleInEndWork (s : State) : State :=
  if s.shuntPhaseOver .settleIn then
    s.withLoader { s.loader with shuntPhase := .measure, shuntCount := 0, shuntSum := 0 }
  else s

/-- MEASURE_END: SHUNT goes inactive; a failed check locks the station with SELF_CHECK, a passed one
goes on to Settle out (R136, R163). -/
def measureEndWork (s : State) : State :=
  if s.shuntPhaseOver .measure then
    let s1 := s.withLoader { s.loader with shunt := false, shuntPhase := .settleOut, shuntCount := 0 }
    if s.shuntPasses then s1 else lockFromLoader .selfCheck s.own .selfCheck s1
  else s

/-- SETTLE_OUT_END: LISTEN with the listen counter at 0; the cycle timer is preset to 3000 and begins
to run (R163, R42). -/
def settleOutEndWork (s : State) : State :=
  if s.shuntPhaseOver .settleOut then
    (s.withLoader { s.loader with progress := .listen, listenCounter := 0 }).withClock
      { s.clock with running := true, timer := earlyMarkLimit }
  else s

/-! ### The end of the listen window (R165) -/

/-- The 64th cycle start of the window has come: the window is a part of START (R164, R165). -/
def State.windowOver (s : State) : Bool :=
  s.seq.state == .start && s.loader.progress == .listen && decide (64 ≤ s.loader.listenCounter)

/-- The supervision and the Creep Watch at the end of the window, by the BRKFB sample (Table 10-2,
R117, R133). -/
def windowBrake (s : State) : State :=
  match s.loop.brakeSample with
  | .set => armCreep (s.withLoop { s.loop with supervision := .matched })
  | .released => s.withLoop { s.loop with supervision := .failed }

/-- The causes handed over at the end of the window, ENCODER first, taken as from READY and with no
STOP frame (Table 10-2, R156). -/
def windowCauses (s : State) : State :=
  let s1 := if s.len.lastResult = .failed then intake .encoder s.own s else s
  if s.loop.brakeSample = .released then intake .brakeNotSet s.own s1 else s1

/-- LISTEN_WINDOW_END: DONE; READY, or STOPPED with the causes of Table 10-2 (R165). -/
def listenWindowEndWork (s : State) : State :=
  if s.windowOver then
    windowCauses (windowBrake (toState .ready (s.withLoader { s.loader with progress := .done })))
  else s

end Sys2Proof.Machine
end

