-- ==== Sys2Proof/Machine/Arrivals.lean ====
section
/-!
DEFINITION. The arrivals: the rows of the table that the part's own state makes due (a timer at its
limit, a row gone LOST, a phase with all its samples, the 64th cycle start of the listen window). Each
has its effect when it is due and none otherwise. Every command from outside first settles the
arrivals that are still due (assumption log 4).
-/

namespace Sys2Proof.Machine

/-- LOST_MEMBER: every member that became LOST at the last cycle start raises the cause once, in order
of station number (R68). -/
def lostMemberWork (s : State) : State :=
  s.peers.lostDue.foldl (fun t n => takeCause .lostMember n t)
    (s.withPeers { s.peers with lostDue := [] })

/-- PRIME_TIMEOUT: the prime timer has reached the prime limit in PRIMED (R17). -/
def primeTimeoutWork (s : State) : State :=
  if s.seq.state = .primed ∧ s.params.primeLimit ≤ s.seq.primeTimer then
    enterParking (refuse .primeTimeout s)
  else s

/-- STOP_OVERTIME: the stop timer has reached the stop limit in STOPPING (R144). -/
def stopOvertimeWork (s : State) : State :=
  if s.seq.state = .stopping ∧ s.params.stopLimit ≤ s.stop.stopTimer then
    takeCause .stopOvertime s.own s
  else s

/-- BRAKE_TIMER_EXPIRY: the supervision timer has reached the brake time while WAITING (R115). -/
def brakeExpiryWork (s : State) : State :=
  if s.loop.supervision = .waiting ∧ s.params.brakeTime ≤ s.loop.supTimer then failBrake s else s

/-- ENABLE is recomputed from the enable age (R87). -/
def recomputeEnable (s : State) : State :=
  s.withGov { s.gov with
    holds := { s.gov.holds with enable := decide (s.params.enableLimit ≤ s.gov.enableAge) } }

/-- All arrivals that are due are taken, in the order of the blocks of R43: Peer Table, Sequencer, Stop
Controller, Line Loop, Governor, Image Loader, then the Load Monitor's and the shunt check's. -/
def settle (s : State) : State :=
  settleOutEndWork (measureEndWork (settleInEndWork (slackTimeoutWork (listenWindowEndWork
    (recomputeEnable (brakeExpiryWork (stopOvertimeWork (primeTimeoutWork (lostMemberWork
      (recomputePeerStale s))))))))))

/-- No arrival is due. -/
def State.quiet (s : State) : Bool :=
  (s.gov.holds.peerStale == s.memberStale) &&
  s.peers.lostDue.isEmpty &&
  !(s.seq.state == .primed && decide (s.params.primeLimit ≤ s.seq.primeTimer)) &&
  !(s.seq.state == .stopping && decide (s.params.stopLimit ≤ s.stop.stopTimer)) &&
  !(s.loop.supervision == .waiting && decide (s.params.brakeTime ≤ s.loop.supTimer)) &&
  (s.gov.holds.enable == decide (s.params.enableLimit ≤ s.gov.enableAge)) &&
  !s.windowOver &&
  !s.load.slackDue &&
  !s.shuntPhaseOver .settleIn && !s.shuntPhaseOver .measure && !s.shuntPhaseOver .settleOut

/-- A command that comes from outside or from the chip clock: the arrivals that are due come before it,
and an attempt that has become possible begins after it (assumption log 4, 15). -/
def external (f : State → State) (s : State) : Host.Outcome State Fault Refusal :=
  .next (beginAttempt (f (settle s)))

/-- A command that is an arrival: its own effect, then an attempt that has become possible. -/
def arrival (f : State → State) (s : State) : Host.Outcome State Fault Refusal :=
  .next (beginAttempt (f s))

end Sys2Proof.Machine
end

