-- ==== Sys2Proof/WellFormed.lean ====
section
/-!
DEFINITION. Which commands can stand for an event of the hardware at all: a frame that can be
accepted has at most 24 body bytes (R36), a frame of an unassigned kind has an unassigned kind code
(Table 2-1), and the bytes read from the configuration memory come in the numbers R160 gives. Every
other operand is held to its range by its type.
-/

namespace Sys2Proof

/-- The kind codes Table 2-1 assigns: STOP 0, MARK 1, GO 2, CLEAR 3, RATE 4, REPORT 8. -/
def assignedKind (k : BitVec 4) : Bool :=
  k = 0#4 || k = 1#4 || k = 2#4 || k = 3#4 || k = 4#4 || k = 8#4

/-- A body that a frame can carry: 0 to 24 bytes (R26, R36). -/
def bodyFits (body : List Byte) : Bool := body.length ≤ Config.maxBody

/-- The rest of the image after the fixed bytes: whole segment records, at most 256 of them, and the
two CRC bytes (R160). -/
def restFits (bytes : List Byte) : Bool :=
  2 ≤ bytes.length && (bytes.length - 2) % Config.segmentBytes == 0 &&
    bytes.length ≤ Config.segmentBytes * Config.maxSegments + 2

/-- Well-formedness of a command. -/
def Instr.wf : Instr → Bool
  | .fixedBytesRead bytes => bytes.length == Config.fixedBytes
  | .imageReadComplete bytes => restFits bytes
  | .markFrame _ _ body => bodyFits body
  | .reportFrame _ body => bodyFits body
  | .goFrame _ body => bodyFits body
  | .rateFrame _ body => bodyFits body
  | .stopFrame _ body => bodyFits body
  | .clearFrame _ body => bodyFits body
  | .unassignedKindFrame kind _ body => !assignedKind kind && bodyFits body
  | .reset => true
  | .memoryReadStart => true
  | .imageCheckComplete => true
  | .strobe _ _ _ => true
  | .settleInEnd => true
  | .measureEnd => true
  | .settleOutEnd => true
  | .listenWindowEnd => true
  | .markDue => true
  | .freeRunningCycleStart => true
  | .peerStale => true
  | .lostMember => true
  | .enableExpiry => true
  | .primeTimeout => true
  | .stopOvertime => true
  | .brakeTimerExpiry => true
  | .lstopEdge => true
  | .dipActive => true
  | .dipInactive => true
  | .faultLampBlink => true
  | .lengthSample _ _ _ => true
  | .slackTimeout => true
  | .lineIdle => true
  | .arbitrationLoss => true
  | .transmitError => true
  | .frameSent => true
  | .frameDiscard _ => true
  | .lineBusy => true
  | .pwmPeriodStart => true

end Sys2Proof
end

