-- ==== Sys2Proof/Machine/Receive.lean ====
section
/-!
DEFINITION. The Link Port's reception and the ends of an attempt (chapter 2), and what the owners of
the frames do with them: the STOP frame (R148), the CLEAR (R153, R154), the RATE (R86).
-/

namespace Sys2Proof.Machine

/-! ### The owners -/

/-- A RATE for all groups or the own one replaces the enable record, sets the age to 0 and recomputes
ENABLE (R86, R87). -/
def takeRate (g r : Nat) (s : State) : State :=
  if s.addressed g then
    recomputeEnable (s.withGov { s.gov with rate := r, enableAge := 0 })
  else s

/-- A STOP for all groups or the own one is taken as CONSOLE_STOP or GROUP_STOP by the sender's role,
with the sender as source (R148). -/
def takeStopFrame (sender g : Nat) (s : State) : State :=
  if s.addressed g then
    takeCause (if s.roleOf sender = .console then .consoleStop else .groupStop) sender s
  else s

/-- What blocks a CLEAR: an active local input at the last strobe, a failed last read, a brake whose
last sample does not show set (R153). -/
def State.clearBlocked (s : State) : Bool :=
  s.stop.lstopSample || s.stop.dipSample || s.stop.dfltSample ||
    s.len.lastResult == .failed || s.loop.brakeSample != .set

/-- The accepted CLEAR's part in the Stop Controller: the record emptied, the ASSIST flag clear, the
stop timer 0, the phase RAMPING (R154). -/
def StopController.cleared (x : StopController) : StopController :=
  { x with
    first := none, later := 0#24, category := .noStop, assist := false
    stopTimer := 0, phase := .ramping }

/-- An accepted CLEAR, in one event (R154). -/
def acceptClear (s : State) : State :=
  let s1 := if s.stop.assist then endAssistRequest s else s
  let s2 := { s1 with
    stop := s1.stop.cleared
    seq := { s1.seq with state := .ready, refusal := .noRefusal }
    loop := { s1.loop with sat := false, supervision := .matched, supTimer := 0 } }
  armCreep s2

/-- A CLEAR for group `g` and station `n`: taken when it addresses this station, checked in STOPPED
with lock pending clear (R153). -/
def takeClear (g n : Nat) (s : State) : State :=
  if s.addressed g && (n == 255 || n == s.own) && s.seq.state == .stopped && !s.stop.lockPending then
    if s.clearBlocked then refuse .clearBlocked s else acceptClear s
  else s

/-! ### Filter and delivery -/

/-- The roster and role filter of Table 2-4: the frame is kept (R39). -/
def State.keeps (s : State) (kind sender : BitVec 4) (body : List Byte) : Bool :=
  let role := s.roleOf sender.toNat
  role != .noRole &&
    (bodyLength kind == some body.length) &&
    (if kind = kindGo ∨ kind = kindClear ∨ kind = kindRate then role == .console
     else if kind = kindReport then role == .winch
     else true)

/-- A received frame of the kind is delivered in this station state (Table 2-5, R40). -/
def State.delivers (s : State) (kind : BitVec 4) : Bool :=
  s.seq.state.operating ||
    (s.seq.state == .start && s.loader.progress == .listen &&
      (kind == kindMark || kind == kindReport))

/-- The owner of the kind takes the frame (Table 2-1, Table 11-2). -/
def deliver (kind sender : BitVec 4) (body : List Byte) (s : State) : State :=
  if kind = kindMark then takeMark (carriedCount body) s
  else if kind = kindReport then takeReport sender.toNat (Report.ofBytes body) s
  else if kind = kindGo then takeGo (byteAt body 0) (byteAt body 1) s
  else if kind = kindRate then takeRate (byteAt body 0) (byteAt body 1) s
  else if kind = kindStop then takeStopFrame sender.toNat (byteAt body 0) s
  else if kind = kindClear then takeClear (byteAt body 0) (byteAt body 1) s
  else s

/-- The receive assembly takes no characters until the line next becomes IDLE (R36, R37). -/
def endReception (s : State) : State :=
  s.withLink { s.link with line := .busy, assembling := false }

/-- What an accepted received frame does: DUPLICATE_STATION under the own number in the operating
states, and the frame is not delivered (R38); otherwise the filter (R39) and the delivery (R40). -/
def acceptReceived (kind sender : BitVec 4) (body : List Byte) (s : State) : State :=
  if s.seq.state.operating && sender.toNat == s.own then takeDuplicate s
  else if s.keeps kind sender body && s.delivers kind then deliver kind sender body s
  else s

/-- A received frame completes. With no frame in progress its characters are ignored (R36, R37); a
length above 24 discards it (R36); otherwise it is accepted. -/
def receiveFrame (kind sender : BitVec 4) (body : List Byte) (s : State) : State :=
  if s.link.assembling then
    if bodyFits body then acceptReceived kind sender body (endReception s) else endReception s
  else s

/-! ### The ends of an attempt (R29 to R34) -/

/-- The Link Port when the attempt on slot `k` is over and the slot is `x`. -/
def endAttempt (k : SlotKind) (x : Slot) (s : State) : State :=
  s.withLink { s.link.setSlot k x with txFrame := [] }

/-- The Link Port reports that the STOP slot has become EMPTY, where the slot `k` whose attempt ended is
it and stands EMPTY as `x`: with lock pending set, the Stop Controller asks for LOCKED (R31, R152). -/
def reportStopEmpty (k : SlotKind) (x : Slot) (s : State) : State :=
  if k = .stop ∧ x.st = .empty ∧ s.stop.lockPending then enterLocked s else s

/-- ARBITRATION_LOSS: the transmitter stops driving, the slot returns to PENDING with its count
unchanged, and the receive assembly takes the rest of the frame (R29). -/
def arbitrationLossWork (s : State) : State :=
  match s.link.attempting with
  | none => s
  | some k => endAttempt k (s.link.slot k).afterLoss s

/-- TRANSMIT_ERROR: the slot's count increases; the third error empties the slot and reports LINK_MUTE,
and an emptied STOP slot is reported (R30, R31, R151, R152). -/
def transmitErrorWork (s : State) : State :=
  match s.link.attempting with
  | none => s
  | some k =>
    let x := (s.link.slot k).afterError
    let s1 := endAttempt k x s
    reportStopEmpty k x (if (s.link.slot k).mutes then takeCause .linkMute s.own s1 else s1)

/-- The own frame as its characters stand on the line, accepted at the moment it is sent: an own MARK
goes to the Cycle Clock, an own STOP and an own REPORT are not delivered (R37, R39, R40). -/
def acceptOwn (chars : List Byte) (s : State) : State :=
  match checkFrame chars with
  | some (kind, sender, body) =>
    if kind = kindMark && s.keeps kind sender body && s.seq.state.operating then
      takeMark (carriedCount body) s
    else s
  | none => s

/-- FRAME_SENT: the slot empties or takes its renewed content, its count returns to 0; an emptied STOP
slot is reported; the own frame is accepted (R32, R33, R37, R152). -/
def frameSentWork (s : State) : State :=
  match s.link.attempting with
  | none => s
  | some k =>
    let x := (s.link.slot k).afterSent
    acceptOwn s.link.txFrame (reportStopEmpty k x (endReception (endAttempt k x s)))

/-! ### The line (R24, R36) -/

/-- LINE_IDLE: the line is IDLE and an incomplete frame is discarded (R24, R36). While the own transmitter drives a
frame no 12 recessive bit times pass (R25, R30), and there is nothing to be done (assumption log 5). -/
def lineIdleWork (s : State) : State :=
  if s.link.attempting.isSome then s
  else s.withLink { s.link with line := .idle, assembling := false }

/-- LINE_BUSY: a start bit seen while IDLE makes the line BUSY and begins a frame; while BUSY it is part
of the BUSY line (R24, R36, R37). -/
def lineBusyWork (s : State) : State :=
  if s.link.line = .idle then s.withLink { s.link with line := .busy, assembling := true } else s

/-- FRAME_DISCARD: the frame in progress is discarded, with no further effect (R36). After a framing error, a length
above 24 and a CRC mismatch the line stays BUSY; the fourth cause is the line's becoming IDLE, which is all that the
discard then leaves (assumption log 14). With no frame in progress there is none to discard. -/
def frameDiscardWork (why : DiscardCause) (s : State) : State :=
  if s.link.assembling then
    match why with
    | .earlyIdle => lineIdleWork s
    | .framing => endReception s
    | .lengthAbove24 => endReception s
    | .crcMismatch => endReception s
  else s

end Sys2Proof.Machine
end

