-- ==== Sys2Proof/Machine/ExecClock.lean ====
section
/-!
DEFINITION. The meanings of the commands of the chip clock, of the Cycle Clock and of the timers counted
in cycle starts (R44, R49, R66, R68, R87, R17, R144, R115, R110, R158).
-/

namespace Sys2Proof.Machine

/-- MARK_DUE (R44). -/
def execMarkDue (s : State) : Host.Outcome State Fault Refusal :=
  external markDueWork s

/-- FREE_RUNNING_CYCLE_START (R49, R43). -/
def execFreeRunningCycleStart (s : State) : Host.Outcome State Fault Refusal :=
  external freeRunWork s

/-- PEER_STALE: the hold is recomputed from the member rows (R66). -/
def execPeerStale (s : State) : Host.Outcome State Fault Refusal :=
  arrival recomputePeerStale s

/-- LOST_MEMBER (R68). -/
def execLostMember (s : State) : Host.Outcome State Fault Refusal :=
  arrival lostMemberWork s

/-- ENABLE_EXPIRY: ENABLE is recomputed from the enable age (R87). -/
def execEnableExpiry (s : State) : Host.Outcome State Fault Refusal :=
  arrival recomputeEnable s

/-- PRIME_TIMEOUT (R17). -/
def execPrimeTimeout (s : State) : Host.Outcome State Fault Refusal :=
  arrival primeTimeoutWork s

/-- STOP_OVERTIME (R144, R145). -/
def execStopOvertime (s : State) : Host.Outcome State Fault Refusal :=
  arrival stopOvertimeWork s

/-- BRAKE_TIMER_EXPIRY (R115). -/
def execBrakeTimerExpiry (s : State) : Host.Outcome State Fault Refusal :=
  arrival brakeExpiryWork s

/-- FAULT_LAMP_BLINK: in LOCKED with a blinking cause the clock runs to the end of the half in progress,
where FAULT_OUT toggles (R158, assumption log 3); elsewhere the lamp is steady. -/
def execFaultLampBlink (s : State) : Host.Outcome State Fault Refusal :=
  external (fun t => match t.blinkRunning with
    | some h => elapse (h - t.stop.blinkClk) t
    | none => t) s

/-- PWM_PERIOD_START: the clock runs to the next boundary of the PWM period, where SPD takes up the duty
in force (R110, assumption log 3). -/
def execPwmPeriodStart (s : State) : Host.Outcome State Fault Refusal :=
  external (fun t => elapse (pwmPeriod - t.loop.pwmPhase) t) s

end Sys2Proof.Machine
end

