-- ==== Sys2Proof/Machine/ExecLink.lean ====
section
/-!
DEFINITION. The meanings of the commands of the flight link: the line, the ends of an attempt, the
received frames (R24, R29 to R40).
-/

namespace Sys2Proof.Machine

/-- LINE_IDLE (R24, R36); an attempt begins if a slot is PENDING (R28). -/
def execLineIdle (s : State) : Host.Outcome State Fault Refusal :=
  external lineIdleWork s

/-- LINE_BUSY (R24). -/
def execLineBusy (s : State) : Host.Outcome State Fault Refusal :=
  external lineBusyWork s

/-- ARBITRATION_LOSS (R29). -/
def execArbitrationLoss (s : State) : Host.Outcome State Fault Refusal :=
  external arbitrationLossWork s

/-- TRANSMIT_ERROR (R30, R31). -/
def execTransmitError (s : State) : Host.Outcome State Fault Refusal :=
  external transmitErrorWork s

/-- FRAME_SENT (R32, R37). -/
def execFrameSent (s : State) : Host.Outcome State Fault Refusal :=
  external frameSentWork s

/-- FRAME_DISCARD (R36): the frame is dropped, by its cause with the line BUSY or IDLE. -/
def execFrameDiscard (why : DiscardCause) (s : State) : Host.Outcome State Fault Refusal :=
  external (frameDiscardWork why) s

/-- MARK_FRAME: `dt` microseconds pass, then a frame of kind MARK completes (R46, R37 to R40). -/
def execMarkFrame (dt : Nat) (sender : BitVec 4) (body : List Byte) (s : State) : Host.Outcome State Fault Refusal :=
  external (fun t => receiveFrame kindMark sender body (elapseUs dt t)) s

/-- REPORT_FRAME (R58). -/
def execReportFrame (sender : BitVec 4) (body : List Byte) (s : State) : Host.Outcome State Fault Refusal :=
  external (receiveFrame kindReport sender body) s

/-- GO_FRAME (R5). -/
def execGoFrame (sender : BitVec 4) (body : List Byte) (s : State) : Host.Outcome State Fault Refusal :=
  external (receiveFrame kindGo sender body) s

/-- RATE_FRAME (R86). -/
def execRateFrame (sender : BitVec 4) (body : List Byte) (s : State) : Host.Outcome State Fault Refusal :=
  external (receiveFrame kindRate sender body) s

/-- STOP_FRAME (R148). -/
def execStopFrame (sender : BitVec 4) (body : List Byte) (s : State) : Host.Outcome State Fault Refusal :=
  external (receiveFrame kindStop sender body) s

/-- CLEAR_FRAME (R153). -/
def execClearFrame (sender : BitVec 4) (body : List Byte) (s : State) : Host.Outcome State Fault Refusal :=
  external (receiveFrame kindClear sender body) s

/-- UNASSIGNED_KIND_FRAME (R38, R39): the frame completes like any other; the filter ignores an unassigned
kind. -/
def execUnassignedKindFrame (kind sender : BitVec 4) (body : List Byte) (s : State) : Host.Outcome State Fault Refusal :=
  external (receiveFrame kind sender body) s

end Sys2Proof.Machine
end

