-- ==== Sys2Proof/Machine/ExecStartUp.lean ====
section
/-!
DEFINITION. The meanings of the commands of reset, of the image read and of the start-up sequence
(R159 to R165, R136).
-/

namespace Sys2Proof.Machine

/-- RESET: every block takes its reset values and the outputs their START values (R159). What is not of
the part stays: the level at the DIP input and the waiting commands (assumption log 17). The row is the power-on or
the release of the RESET input, from which START runs. DESIGN CHOICE, unsafe: the input's activation and the time for
which it is held have no step and no state of their own (assumption log 29). -/
def execReset (s : State) : Host.Outcome State Fault Refusal :=
  .next { State.reset with dipLevel := s.dipLevel, pending := s.pending }

/-- MEMORY_READ_START (R160). -/
def execMemoryReadStart (s : State) : Host.Outcome State Fault Refusal :=
  external memoryReadStartWork s

/-- FIXED_BYTES_READ (R160, R161). -/
def execFixedBytesRead (bytes : List Byte) (s : State) : Host.Outcome State Fault Refusal :=
  external (fixedBytesWork bytes) s

/-- IMAGE_READ_COMPLETE (R160). -/
def execImageReadComplete (bytes : List Byte) (s : State) : Host.Outcome State Fault Refusal :=
  external (imageReadWork bytes) s

/-- IMAGE_CHECK_COMPLETE (R161, R162). -/
def execImageCheckComplete (s : State) : Host.Outcome State Fault Refusal :=
  external imageCheckWork s

/-- SETTLE_IN_END (R136). -/
def execSettleInEnd (s : State) : Host.Outcome State Fault Refusal :=
  arrival settleInEndWork s

/-- MEASURE_END (R136, R163). -/
def execMeasureEnd (s : State) : Host.Outcome State Fault Refusal :=
  arrival measureEndWork s

/-- SETTLE_OUT_END (R136, R163, R42). -/
def execSettleOutEnd (s : State) : Host.Outcome State Fault Refusal :=
  arrival settleOutEndWork s

/-- LISTEN_WINDOW_END (R165). -/
def execListenWindowEnd (s : State) : Host.Outcome State Fault Refusal :=
  arrival listenWindowEndWork s

end Sys2Proof.Machine
end

