-- ==== Sys2Proof/Machine/ExecWinch.lean ====
section
/-!
DEFINITION. The meanings of the commands that come from the own winch: the strobe, the encoder read,
the local inputs, the slack counter (R127, R125, R149, R150, R131).
-/

namespace Sys2Proof.Machine

/-- STROBE: `dt` microseconds pass, then the strobe takes its samples (R127, R113, R149, R150). -/
def execStrobe (dt : Nat) (inputs : StrobeInputs) (localFirst : Bool) (s : State) : Host.Outcome State Fault Refusal :=
  external (fun t => strobeWork inputs localFirst (elapseUs dt t)) s

/-- LENGTH_SAMPLE (R125). -/
def execLengthSample (word : EncoderWord) (load creep : CheckPoint) (s : State) : Host.Outcome State Fault Refusal :=
  external (lengthSampleWork word load creep) s

/-- SLACK_TIMEOUT (R131). -/
def execSlackTimeout (s : State) : Host.Outcome State Fault Refusal :=
  arrival slackTimeoutWork s

/-- LSTOP_EDGE: an active edge sets the local-stop latch, in every state (R149). -/
def execLstopEdge (s : State) : Host.Outcome State Fault Refusal :=
  external (fun t => t.withStop { t.stop with localLatch := true }) s

/-- DIP_ACTIVE: DIP changes to active, the dip timer starts from 0 (R150). DIP that is active already does
not change. -/
def execDipActive (s : State) : Host.Outcome State Fault Refusal :=
  external (fun t => if t.dipLevel then t
    else (t.withStop { t.stop with dipTimer := 0 }).withDip true) s

/-- DIP_INACTIVE: DIP changes to inactive, the dip timer becomes 0 (R150). -/
def execDipInactive (s : State) : Host.Outcome State Fault Refusal :=
  external (fun t => (t.withStop { t.stop with dipTimer := 0 }).withDip false) s

end Sys2Proof.Machine
end

