-- ==== Sys2Proof/Machine/Dispatch.lean ====
section
/-!
DEFINITION. `exec`: one arm for each command, each a direct call of its meaning.
-/

namespace Sys2Proof.Machine

def exec (i : Instr) (s : State) : Host.Outcome State Fault Refusal :=
  match i with
  | .reset => Sys2Proof.Machine.execReset s
  | .memoryReadStart => Sys2Proof.Machine.execMemoryReadStart s
  | .fixedBytesRead bytes => Sys2Proof.Machine.execFixedBytesRead bytes s
  | .imageReadComplete bytes => Sys2Proof.Machine.execImageReadComplete bytes s
  | .imageCheckComplete => Sys2Proof.Machine.execImageCheckComplete s
  | .strobe dt inputs localFirst => Sys2Proof.Machine.execStrobe dt inputs localFirst s
  | .settleInEnd => Sys2Proof.Machine.execSettleInEnd s
  | .measureEnd => Sys2Proof.Machine.execMeasureEnd s
  | .settleOutEnd => Sys2Proof.Machine.execSettleOutEnd s
  | .listenWindowEnd => Sys2Proof.Machine.execListenWindowEnd s
  | .markDue => Sys2Proof.Machine.execMarkDue s
  | .freeRunningCycleStart => Sys2Proof.Machine.execFreeRunningCycleStart s
  | .peerStale => Sys2Proof.Machine.execPeerStale s
  | .lostMember => Sys2Proof.Machine.execLostMember s
  | .enableExpiry => Sys2Proof.Machine.execEnableExpiry s
  | .primeTimeout => Sys2Proof.Machine.execPrimeTimeout s
  | .stopOvertime => Sys2Proof.Machine.execStopOvertime s
  | .brakeTimerExpiry => Sys2Proof.Machine.execBrakeTimerExpiry s
  | .lstopEdge => Sys2Proof.Machine.execLstopEdge s
  | .dipActive => Sys2Proof.Machine.execDipActive s
  | .dipInactive => Sys2Proof.Machine.execDipInactive s
  | .faultLampBlink => Sys2Proof.Machine.execFaultLampBlink s
  | .lengthSample word load creep => Sys2Proof.Machine.execLengthSample word load creep s
  | .slackTimeout => Sys2Proof.Machine.execSlackTimeout s
  | .lineIdle => Sys2Proof.Machine.execLineIdle s
  | .arbitrationLoss => Sys2Proof.Machine.execArbitrationLoss s
  | .transmitError => Sys2Proof.Machine.execTransmitError s
  | .frameSent => Sys2Proof.Machine.execFrameSent s
  | .frameDiscard why => Sys2Proof.Machine.execFrameDiscard why s
  | .markFrame dt sender body => Sys2Proof.Machine.execMarkFrame dt sender body s
  | .reportFrame sender body => Sys2Proof.Machine.execReportFrame sender body s
  | .goFrame sender body => Sys2Proof.Machine.execGoFrame sender body s
  | .rateFrame sender body => Sys2Proof.Machine.execRateFrame sender body s
  | .stopFrame sender body => Sys2Proof.Machine.execStopFrame sender body s
  | .clearFrame sender body => Sys2Proof.Machine.execClearFrame sender body s
  | .lineBusy => Sys2Proof.Machine.execLineBusy s
  | .unassignedKindFrame kind sender body => Sys2Proof.Machine.execUnassignedKindFrame kind sender body s
  | .pwmPeriodStart => Sys2Proof.Machine.execPwmPeriodStart s

end Sys2Proof.Machine
end

