-- ==== Sys2Proof/Machine/Idle.lean ====
section
/-!
DEFINITION. What the part does while no command waits: it takes the event that its own state makes
due, and if none is due one chip clock passes (assumption log 2).
-/

namespace Sys2Proof.Machine

/-- The arrival that is due, in the order in which `settle` takes them (assumption log 4). -/
def State.dueArrival (s : State) : Option Instr :=
  if s.gov.holds.peerStale != s.memberStale then some .peerStale
  else if !s.peers.lostDue.isEmpty then some .lostMember
  else if s.seq.state = .primed ∧ s.params.primeLimit ≤ s.seq.primeTimer then some .primeTimeout
  else if s.seq.state = .stopping ∧ s.params.stopLimit ≤ s.stop.stopTimer then some .stopOvertime
  else if s.loop.supervision = .waiting ∧ s.params.brakeTime ≤ s.loop.supTimer then
    some .brakeTimerExpiry
  else if s.gov.holds.enable != decide (s.params.enableLimit ≤ s.gov.enableAge) then
    some .enableExpiry
  else if s.windowOver then some .listenWindowEnd
  else if s.load.slackDue then some .slackTimeout
  else if s.shuntPhaseOver .settleIn then some .settleInEnd
  else if s.shuntPhaseOver .measure then some .measureEnd
  else if s.shuntPhaseOver .settleOut then some .settleOutEnd
  else none

/-- The event of the chip clock that is due: the timer at 6000 (R49), the MARK's due time (R44), the
end of WAIT (R160). The PWM boundary and the lamp's toggle come about in the passing of time itself
(R110, R158). -/
def State.dueClockEvent (s : State) : Option Instr :=
  if s.clock.running ∧ cycleExpiry ≤ s.clock.timer then some .freeRunningCycleStart
  else if s.mayRequestMark && decide (s.markDueTime ≤ s.clock.timer) then some .markDue
  else if s.loader.progress = .wait ∧ waitClocks ≤ s.loader.waitClk then some .memoryReadStart
  else none

/-- The event that the state makes due: an arrival first, then an event of the chip clock. -/
def State.dueEvent (s : State) : Option Instr :=
  match s.dueArrival with
  | some c => some c
  | none => s.dueClockEvent

/-- The block with no command waiting: the due event, or one chip clock. -/
def idle (s : State) : Host.Outcome State Fault Refusal :=
  match s.dueEvent with
  | some c => exec c s
  | none => .next (elapse 1 s)

/-- The command at the front of the queue runs with the queue's rest; with no command waiting the
block idles. -/
def takeCommand (s : State) : Host.Outcome State Fault Refusal :=
  match s.pending with
  | [] => idle s
  | c :: rest => exec c (s.withPending rest)

/-- The state with the command that a table word spells put at the front of the queue; unchanged where
the word spells none (assumption log 18). -/
def putWord (s : State) (nbits w : Nat) : State :=
  match decodeTableWord nbits w with
  | some c => s.withPending (c :: s.pending)
  | none => s

end Sys2Proof.Machine
end

