-- ==== Sys2Proof/Machine/Step.lean ====
section
/-!
DEFINITION. One step of the block, and the placing of a table word's command.
-/

namespace Sys2Proof.Machine

/-- One step: the command at the front of the queue, or the idling block. -/
def step (s : State) : Host.Outcome State Fault Refusal := takeCommand s

/-- The command that a table word spells, put at the front of the queue. -/
def State.withFetchWord (s : State) (nbits w : Nat) : State := putWord s nbits w

end Sys2Proof.Machine
end

