-- ==== Sys2Proof/Machine/Outputs.lean ====
section
/-!
DEFINITION. The output pins of the part as its state shows them (Table 0-2): DREN, BRKREL, SPD, SHUNT,
FAULT_OUT, MSEL, MCLK and the link driver. None is stored twice: each is read off the block that
drives it.
-/

namespace Sys2Proof.Machine

/-- DREN: the drive enable (R102, Table 1-2). -/
def State.dren (s : State) : Bool := s.loop.drive

/-- BRKREL: active while the brake command is RELEASE (R102, Table 1-2). -/
def State.brkrel (s : State) : Bool := s.loop.brake == .release

/-- SHUNT (Table 8-7). -/
def State.shuntOut (s : State) : Bool := s.loader.shunt

/-- MSEL; MCLK runs while MSEL is active (R160). -/
def State.mselOut (s : State) : Bool := s.loader.msel

/-- The chip clocks for which SPD is high in the period in progress (R110). -/
def State.spdHighClocks (s : State) : Nat :=
  if s.params.pwmInvert then pwmPeriod - s.loop.pwmDuty else s.loop.pwmDuty

/-- SPD at this chip clock: high for as many clocks of the period as R110 says. DESIGN CHOICE, unsafe: they are the
first ones of the period (assumption log 28). -/
def State.spd (s : State) : Bool := decide (s.loop.pwmPhase < s.spdHighClocks)

/-- FAULT_OUT: by the station state, and in LOCKED by the lock cause and the half of its pattern
(Table 9-6, R158). -/
def State.faultOut (s : State) : Bool :=
  match s.seq.state with
  | .start => true
  | .ready => false
  | .primed => false
  | .flying => false
  | .parking => false
  | .stopping => true
  | .stopped => true
  | .locked => (blinkHalf s.stop.lockCause).isNone || s.stop.blinkOn

/-- The station drives the link: an attempt is in progress (R28, R159). -/
def State.linkDriven (s : State) : Bool := s.link.attempting.isSome

end Sys2Proof.Machine
end

