-- ==== Sys2Proof/Safety.lean ====
section
/-!
DEFINITION. What counts as a safe state of the part, in the terms the statements use: the brake is
released only onto an enabled drive in a state that may move the line (R2), the outputs and the fault
record fit the station state, progress stays within the cue, the transmit slots are in order and a
station in START or LOCKED has nothing to send (R35). After these, the words in which the statements say
what a command changes.
-/

namespace Sys2Proof.Machine

/-- Whenever BRKREL is active, DREN is active and the station is in PRIMED, FLYING or a controlled
STOPPING that has not settled (R2, R142). -/
def State.brakeOnDrive (s : State) : Prop :=
  s.loop.brake = .release →
    s.loop.drive = true ∧
      (s.seq.state = .primed ∨ s.seq.state = .flying ∨
        (s.seq.state = .stopping ∧ s.stop.phase = .ramping))

/-- The states of Table 1-2 in which the drive is enabled. -/
def State.driveWanted (s : State) : Bool :=
  match s.seq.state with
  | .primed => true
  | .flying => true
  | .parking => true
  | .stopping => true
  | .stopped => s.stop.assist
  | .start => false
  | .ready => false
  | .locked => false

/-- The outputs of the Line Loop fit the station state: DREN as Table 1-2 gives it, RELEASE commanded in
PRIMED and FLYING and otherwise only in a controlled STOPPING that has not settled, zero speed with the
drive off, the duty and the duty in force on SPD within 1 to 1023 (R2, R110, R111). -/
def State.outputsFit (s : State) : Prop :=
  s.loop.drive = s.driveWanted ∧
    (s.seq.state = .primed ∨ s.seq.state = .flying → s.loop.brake = .release) ∧
    (s.loop.brake = .release →
      s.seq.state = .primed ∨ s.seq.state = .flying ∨
        (s.seq.state = .stopping ∧ s.stop.phase = .ramping)) ∧
    (s.loop.drive = false → s.loop.speed = 0 ∧ s.loop.duty = 512) ∧
    1 ≤ s.loop.duty ∧ s.loop.duty ≤ 1023 ∧ 1 ≤ s.loop.pwmDuty ∧ s.loop.pwmDuty ≤ 1023

/-- The fault record is empty, with category NONE and the ASSIST flag clear. -/
def State.recordEmpty (s : State) : Prop :=
  s.stop.first = none ∧ s.stop.later = 0#24 ∧ s.stop.category = .noStop ∧ s.stop.assist = false

/-- The fault record agrees with the station state: empty in START and out of a stop; open and
CONTROLLED in STOPPING; open with a category in STOPPED, the ASSIST flag set exactly in ASSIST; open
and without ASSIST in LOCKED; and open in STOPPED with category IMMEDIATE while a lock is pending (R137, R140,
R145, R146, R147, R152, R154, R157). -/
def State.recordFits (s : State) : Prop :=
  (match s.seq.state with
  | .start => s.recordEmpty
  | .ready => s.recordEmpty
  | .primed => s.recordEmpty
  | .flying => s.recordEmpty
  | .parking => s.recordEmpty
  | .stopping => s.stop.first.isSome = true ∧ s.stop.category = .controlled ∧ s.stop.assist = false
  | .stopped =>
    s.stop.first.isSome = true ∧ s.stop.category ≠ .noStop ∧
      (s.stop.assist = true ↔ s.stop.category = .assist)
  | .locked => s.stop.first.isSome = true ∧ s.stop.assist = false) ∧
    (s.stop.lockPending = true →
      s.stop.first.isSome = true ∧ s.seq.state = .stopped ∧ s.stop.category = .immediate)

/-- The cause stands in the fault record, as the first cause or in the later-fault set (R139). -/
def State.holdsCause (s : State) (c : FaultCode) : Prop :=
  (∃ src, s.stop.first = some (c, src)) ∨ inLater s.stop.later c = true

/-- The sums of the Tension Filter hold: 2^m entries in the delay line, and the running sum their total
(R126, R127). -/
def State.filterTotals (s : State) : Prop :=
  s.tens.line.length = 2 ^ s.params.m ∧ s.tens.sum = s.tens.line.sum

/-- The counters stay in their ranges: the cycle timer, the chip clocks within a microsecond, a PWM period and a half of
the lamp's pattern, the read failures, the enable age, the listen counter, the dip timer; the image's station number
and m; and, from the moment an image is loaded, its lost limit, enable limit, V_max and K (R42, R87, R110, R120, R150,
R158, R161, R164). -/
def State.countsInRange (s : State) : Prop :=
  s.clock.timer ≤ 6000 ∧ s.clock.clkDiv < 25 ∧ s.loop.pwmPhase < 1024 ∧
    (∀ half, s.blinkRunning = some half → s.stop.blinkClk < half) ∧
    s.len.failures ≤ 2 ∧ s.gov.enableAge ≤ 255 ∧
    s.loader.listenCounter ≤ 64 ∧ s.stop.dipTimer ≤ 1000 ∧ s.params.station ≤ 15 ∧ s.params.m ≤ 5 ∧
    (s.seq.state.operating = true ∨ s.loader.progress = .shunt ∨ s.loader.progress = .listen →
      5 ≤ s.params.lostLimit ∧ 2 ≤ s.params.enableLimit ∧ 1 ≤ s.params.vMax ∧ 1 ≤ s.params.kScale)

/-- Progress stays within the current cue: there is no cue before the part has started up, a cue is
present while the station flies or stops, the segment index names one of its segments, commanded
progress lies on that segment (at its end only on the last one), achieved progress does not pass
commanded progress (R72, R81 to R83, R85, R93, R94, R99). -/
def State.progressInCue (s : State) : Prop :=
  (s.seq.state.operating = true → s.loader.progress = .done) ∧
    (s.loader.progress ≠ .done → s.gov.cue = 255) ∧
    (∀ c e, s.path.entry c = some e → 1 ≤ e.n) ∧
    ((s.seq.state.inFlight = true ∨ s.seq.state = .stopping) → (s.path.entry s.gov.cue).isSome = true) ∧
    (∀ e, s.path.entry s.gov.cue = some e →
      s.gov.k < e.n ∧ s.gov.k * 65536 ≤ s.gov.q ∧ s.gov.q ≤ (s.gov.k + 1) * 65536 ∧
        (s.gov.k + 1 < e.n → s.gov.q < (s.gov.k + 1) * 65536)) ∧
    s.gov.achieved ≤ s.gov.q

/-- A slot in order: EMPTY with nothing kept, otherwise with fewer than three failed attempts; renewed
content and a withdrawal only IN ATTEMPT (R28, R31, R33, R34). -/
def Slot.inOrder (x : Slot) : Prop :=
  (x.st = .empty → x = {}) ∧ x.attempts < 3 ∧
    (x.st ≠ .inAttempt → x.renewed = none ∧ x.withdrawn = false)

/-- The transmit slots are in order, at most one is IN ATTEMPT, and in START and LOCKED all are EMPTY
(R28, R35). -/
def State.slotsInOrder (s : State) : Prop :=
  s.link.stopSlot.inOrder ∧ s.link.markSlot.inOrder ∧ s.link.reportSlot.inOrder ∧
    ¬ (s.link.stopSlot.st = .inAttempt ∧ s.link.markSlot.st = .inAttempt) ∧
    ¬ (s.link.stopSlot.st = .inAttempt ∧ s.link.reportSlot.st = .inAttempt) ∧
    ¬ (s.link.markSlot.st = .inAttempt ∧ s.link.reportSlot.st = .inAttempt) ∧
    (s.seq.state.operating = false →
      s.link.stopSlot = {} ∧ s.link.markSlot = {} ∧ s.link.reportSlot = {})

/-! ### What a command changes -/

/-- The command that the acceptance of a frame with this header and body is (Table 2-1); a MARK is taken
with no time passed since the command before it. -/
def frameCommand (kind sender : BitVec 4) (body : List Byte) : Instr :=
  if kind = kindStop then .stopFrame sender body
  else if kind = kindMark then .markFrame 0 sender body
  else if kind = kindGo then .goFrame sender body
  else if kind = kindClear then .clearFrame sender body
  else if kind = kindRate then .rateFrame sender body
  else if kind = kindReport then .reportFrame sender body
  else .unassignedKindFrame kind sender body

/-- The state after the acceptance or the discard of a frame that has no other effect: the receive
assembly waits for the next IDLE (R36, R37). -/
def State.frameOver (s : State) : State := s.withLink { s.link with line := .busy, assembling := false }

/-- The parts of `State`. -/
inductive Block where
  | link | clock | peers | path | seq | gov | loop | len | tens | load | creep | stop | loader | params
  | dipLevel | pending
  deriving DecidableEq, Repr

/-- The two states hold the same in a block. -/
def State.sameBlock (s t : State) : Block → Prop
  | .link => t.link = s.link
  | .clock => t.clock = s.clock
  | .peers => t.peers = s.peers
  | .path => t.path = s.path
  | .seq => t.seq = s.seq
  | .gov => t.gov = s.gov
  | .loop => t.loop = s.loop
  | .len => t.len = s.len
  | .tens => t.tens = s.tens
  | .load => t.load = s.load
  | .creep => t.creep = s.creep
  | .stop => t.stop = s.stop
  | .loader => t.loader = s.loader
  | .params => t.params = s.params
  | .dipLevel => t.dipLevel = s.dipLevel
  | .pending => t.pending = s.pending

/-- `t` differs from `s` in the listed blocks at most. -/
def State.changesOnly (s : State) (blocks : List Block) (t : State) : Prop :=
  ∀ b, b ∉ blocks → s.sameBlock t b

/-- `t` is `s` after the loader's entry to LOCKED from START with a cause, its source and the lock cause: the
record opened in category IMMEDIATE, the outputs off, the slots empty (R4, R35, R53, R117, R156, R157, R161,
R163). -/
def State.lockedFromStart (s : State) (c : FaultCode) (src : Nat) (cause : LockCause) (t : State) : Prop :=
  t.seq = { s.seq with state := .locked } ∧
    t.stop.first = some (c, src) ∧ t.stop.later = s.stop.later ∧ t.stop.category = .immediate ∧
    t.stop.assist = false ∧ t.stop.lockPending = false ∧ t.stop.lockCause = cause ∧
    t.loop.drive = false ∧ t.loop.duty = 512 ∧ t.loop.speed = 0 ∧ t.loop.brake = .set ∧
    t.loop.supervision = .idle ∧ t.loop.supTimer = 0 ∧
    t.link.stopSlot = {} ∧ t.link.markSlot = {} ∧ t.link.reportSlot = {} ∧
    t.clock.markRequested = false ∧ t.loader.progress = .failed ∧ t.loader.msel = false ∧
    t.loader.shunt = false ∧
    s.changesOnly [.link, .clock, .seq, .loop, .stop, .loader] t

/-- `t` is `u` after what a cycle start does in the blocks of R43 (the clock and the slots apart): the read
begun (R121), the tension latched (R128), the peer rows aged (R57) and the members lost by it noted (R68),
the prime timer (R17), the stop timer (R144), the brake supervision timer (R113), the enable age (R87) and
the listen counter (R164) advanced. -/
def State.cycleStarted (u t : State) : Prop :=
  let average : Int :=
    if u.params.m = 0 then u.tens.sum else (u.tens.sum + 2 ^ (u.params.m - 1)) / 2 ^ u.params.m
  t.len = { u.len with reading := true } ∧
    t.tens = { u.tens with latched :=
      if u.tens.started then
        (max 0 (min 65535 (((average + u.params.tOffset) * u.params.gain + 2048) / 4096))).toNat
      else u.tens.latched } ∧
    t.peers.rows = u.peers.rows.map (fun r =>
      if r.station ≠ u.own ∧ r.report.isSome = true then { r with age := min 255 (r.age + 1) } else r) ∧
    (∀ n, n ∈ t.peers.lostDue ↔
      u.seq.state.inFlight = true ∧ ∃ r ∈ u.members, r.station = n ∧ r.report.isSome = true ∧
        u.presence r ≠ .lost ∧ 2 < min 255 (r.age + 1) ∧ u.params.lostLimit ≤ min 255 (r.age + 1)) ∧
    t.seq = (if u.seq.state = .primed then { u.seq with primeTimer := u.seq.primeTimer + 1 } else u.seq) ∧
    t.stop = (if u.seq.state = .stopping then { u.stop with stopTimer := u.stop.stopTimer + 1 }
      else u.stop) ∧
    t.loop = (if u.loop.supervision = .waiting then { u.loop with supTimer := u.loop.supTimer + 1 }
      else u.loop) ∧
    t.gov = { u.gov with enableAge := min 255 (u.gov.enableAge + 1) } ∧
    t.loader = (if u.loader.progress = .listen then
      { u.loader with listenCounter := min 64 (u.loader.listenCounter + 1) } else u.loader) ∧
    u.changesOnly [.link, .clock, .peers, .seq, .gov, .loop, .len, .tens, .stop, .loader] t

/-- The Link Port with a cycle start's withdrawal of the own MARK (R34, R47, R49). -/
def State.markWithdrawn (s : State) : LinkPort :=
  if s.clock.markRequested then { s.link with markSlot := s.link.markSlot.withdraw } else s.link

/-- `t` has the brake commanded SET over `s`, where another event has not changed the station state: the
drive as `drive` says, the supervision as it stood where SET was commanded already, otherwise restarted on SET
and confirmed at once by a sample that shows set (R111, R113, R114). -/
def State.brakeCommandedSet (s : State) (drive : Bool) (t : State) : Prop :=
  t.loop.brake = .set ∧ t.loop.drive = drive ∧
    (if s.loop.brake = .set then
      t.loop.supervision = s.loop.supervision ∧ t.loop.supTimer = s.loop.supTimer
    else t.loop.supervision = (if s.loop.brakeSample = .set then .matched else .waiting) ∧
      t.loop.supTimer = 0)

/-- `t` holds the line by the drive at the assist target: the armed reference, otherwise the measured length
(R118, R106). -/
def State.heldByDrive (s t : State) : Prop :=
  let a := if s.creep.armed then s.creep.reference else s.len.measured
  t.loop.assistTarget = a ∧ t.loop.target = a ∧ t.loop.prevTarget = a

/-! ### What a command reads -/

/-- Check 3 of a GO passes: the measured length is within the start tolerance of the start length (R8). -/
def State.startNear (s : State) (e : CueEntry) : Prop :=
  ((s.len.measured : Int) - (e.l0 : Int)).natAbs ≤ s.params.startTol

/-- Check 4 of a GO passes: every member row is FRESH and shows READY (R9). -/
def State.membersShowReady (s : State) : Prop :=
  ∀ r ∈ s.peers.rows, r.station ≠ s.own → r.group = s.ownGroup →
    ∃ p, r.report = some p ∧ r.age ≤ 2 ∧ p.stateCode = 1#8

/-- Check 5 of a GO passes: no member shows another fingerprint (R9). -/
def State.membersShareTiming (s : State) : Prop :=
  ∀ r ∈ s.peers.rows, r.station ≠ s.own → r.group = s.ownGroup →
    ∀ p, r.report = some p → p.fingerprint = s.path.fingerprint

/-- The exclusion test for own cue `c` finds a conflict with a row: a FRESH or STALE peer row of another group that
shows one of the state codes, named by an entry for `c` with its cue or any cue (R10, R70). -/
def State.rowConflicts (s : State) (codes : List Nat) (c : Nat) (r : Row) : Prop :=
  r.station ≠ s.own ∧ r.group ≠ s.ownGroup ∧
    ∃ p, r.report = some p ∧ (r.age ≤ 2 ∨ r.age < s.params.lostLimit) ∧ p.stateCode.toNat ∈ codes ∧
      ∃ x ∈ s.path.exclusions, x.ownCue = c ∧ x.otherGroup = r.group ∧
        (x.otherCue = 255 ∨ x.otherCue = p.cue.toNat)

/-- The encoder word is good and reads as the length `l` (R122, R123). -/
def State.readsLength (s : State) (w : EncoderWord) (l : Nat) : Prop :=
  encoderOnes w % 2 = 0 ∧ w.getLsbD 1 = false ∧ l ≤ 999999 ∧
    (if s.params.dirNegative then
      (l : Int) = (s.params.lZero : Int) - (((w.toNat / 4) * s.params.kScale + 32768) / 65536 : Nat)
    else (l : Int) = (s.params.lZero : Int) + (((w.toNat / 4) * s.params.kScale + 32768) / 65536 : Nat))

/-- The length that the read of this sample leaves to the blocks: the one the word reads, or, after a single failed
read, the one held from the last good read (R107, R124). -/
def State.leavesLength (s : State) (w : EncoderWord) (l : Nat) : Prop :=
  s.readsLength w l ∨
    ((encoderOnes w % 2 = 1 ∨ w.getLsbD 1 = true) ∧ s.len.failures = 0 ∧ l = s.len.measured)

/-- The segment a computation leaves current: the next one where the new progress is the end of one that is not
the cue's last (R82, R94 stage 7). -/
def State.nextSegment (s : State) (stopping : Bool) : Nat :=
  if s.newProgress stopping = (s.gov.k + 1) * 65536 ∧ s.gov.k + 1 < s.currentEntry.n then s.gov.k + 1
  else s.gov.k

/-! ### The Load Monitor -/

/-- SLACK as R130 evaluates it: the own tension, or the tension of a member with a report part, is below T_slack. -/
def State.slackFound (s : State) : Prop :=
  s.tens.latched < s.params.tSlack ∨
    ∃ r ∈ s.peers.rows, r.station ≠ s.own ∧ r.group = s.ownGroup ∧
      ∃ p, r.report = some p ∧ p.tension.toNat < s.params.tSlack

/-- LOAD_BAND as R130 evaluates it: the own tension and those of the members with a report part sum up to less than
G_lo or more than G_hi. -/
def State.bandFound (s : State) : Prop :=
  let groupLoad := s.tens.latched + ((s.peers.rows.filter fun r =>
      decide (r.station ≠ s.own ∧ r.group = s.ownGroup)).map fun r =>
    (r.report.map fun p => p.tension.toNat).getD 0).sum
  groupLoad < s.params.gLo ∨ s.params.gHi < groupLoad

/-- `t` has what the Load Monitor's checks on `s`, made in the station state `found`, write: its two hold reasons, the
two others unchanged, and the slack counter (R130, R131). `slackDue` is the model's own field (assumption log 4). -/
def State.loadWritten (s : State) (found : StationState) (t : State) : Prop :=
  let judged := found = .primed ∨ found = .flying
  (t.gov.holds.slack = true ↔ judged ∧ s.slackFound) ∧
    (t.gov.holds.loadBand = true ↔ judged ∧ s.bandFound) ∧
    t.gov.holds.enable = s.gov.holds.enable ∧ t.gov.holds.peerStale = s.gov.holds.peerStale ∧
    (found = .flying → s.slackFound →
      t.load.slackCounter = min s.params.slackLimit (s.load.slackCounter + 1)) ∧
    (¬ (found = .flying ∧ s.slackFound) → t.load.slackCounter = 0) ∧
    (t.load.slackDue = true ↔ found = .flying ∧ s.params.slackLimit ≤ t.load.slackCounter)

/-- The slack counter reaches its limit at a check in FLYING (R131). -/
def State.slackEnds (s : State) : Prop :=
  (s.slackFound ∧ s.params.slackLimit ≤ s.load.slackCounter + 1) ∨ s.params.slackLimit = 0

/-- A sample on `s`, with an empty record, that leaves the sequencer as `left`, ends in `t`, the Load Monitor having made
its checks in the station state `found`: what they write, and above T_max OVERLOAD with the own station as source, which
stops a READY station on its brake and starts a controlled stop from PRIMED, FLYING and PARKING, with a STOP frame (R129
to R131, R140, R141). The reasons and the counter are written before OVERLOAD is raised (assumption log 13), and a
counter at its limit is noted and nothing else (assumption log 4). -/
def State.endsIn (s : State) (found : StationState) (left : Sequencer) (t : State) : Prop :=
  s.loadWritten found t ∧
    (s.tens.latched ≤ s.params.tMax → t.seq = left ∧ t.stop = s.stop) ∧
    (s.params.tMax < s.tens.latched →
      t.seq = { left with state := if left.state = .ready then .stopped else .stopping } ∧
      t.stop.first = some (.overload, s.own) ∧ t.stop.later = 0#24 ∧ t.stop.category = .controlled ∧
      t.stop.assist = false ∧ (left.state ≠ .ready → t.stop.phase = .ramping ∧ t.stop.stopTimer = 0) ∧
      (s.link.line = .busy →
        t.link.stopSlot = s.link.stopSlot.request (stopBody s.ownGroup 5 s.own)))

end Sys2Proof.Machine
end

