-- ==== Sys2Proof/Certificates/Slice0/Obligations.lean ====
section
/-!
DEFINITION. The statements about the part, from the numbered rules of spec/. Hypotheses are on the state
and the operands alone; `s.quiet = true` says that no arrival of the part's own is due (assumption log 4),
`s.link.assembling = true` that a frame is in progress on the line.
-/

open Sys2Proof Sys2Proof.Machine

/-! ### The machine -/

/-- One step of the block with a command waiting is that command, on the state with the queue's rest (the model's
choice of a queue, assumption log 1). With none waiting the block takes the event its state makes due, and lets one
chip clock pass when none is (the model's choice, assumption log 2). In a quiet state that is the free-running cycle
start with a running timer at 6000 microseconds (R49), the own MARK at its due time with its flag clear (R44), the image
read at the end of WAIT (R160). No arrival is due exactly in the quiet states; one that is due has its own condition,
and the order among several is the model's choice (assumption log 4). The passing of `n` chip clocks: a running cycle
timer and, with DIP active, the dip timer advance by a microsecond for every 25 clocks, to 6000 and to 1000 at most
(R42, R150; one prescaler for both is the model's choice, assumption log 7), WAIT counts its 25,000 clocks (R160), the
PWM period of 1024 takes up the duty at its end (R110), the lamp of LOCKED toggles at the end of its half (R158), and
nothing else changes. -/
def Obligations.StepTakesTheFrontCommandOrIdles : Prop :=
  (∀ (c : Instr) (rest : List Instr) (s : State),
    s.pending = c :: rest → step s = exec c (s.withPending rest)) ∧
  (∀ s : State, s.pending = [] →
    (s.dueEvent = none → step s = .next (elapse 1 s)) ∧
    (∀ c, s.dueEvent = some c → step s = exec c s)) ∧
  (∀ s : State, s.pending = [] → s.quiet = true →
    let cycleEnds := s.clock.running = true ∧ 6000 ≤ s.clock.timer
    let markDue := s.seq.state.operating = true ∧ s.clock.running = true ∧ s.clock.markRequested = false ∧
      4000 + 20 * s.own ≤ s.clock.timer
    let waitEnds := s.loader.progress = .wait ∧ 25000 ≤ s.loader.waitClk
    (cycleEnds → step s = exec .freeRunningCycleStart s) ∧
    (markDue → ¬ cycleEnds → step s = exec .markDue s) ∧
    (waitEnds → ¬ cycleEnds → ¬ markDue → step s = exec .memoryReadStart s) ∧
    (¬ cycleEnds → ¬ markDue → ¬ waitEnds → step s = .next (elapse 1 s))) ∧
  (∀ s : State, (s.dueArrival = none ↔ s.quiet = true) ∧
    ∀ c, s.dueArrival = some c →
      (s.pending = [] → step s = exec c s) ∧
      ((c = .peerStale ∧ s.gov.holds.peerStale ≠ s.memberStale) ∨
        (c = .lostMember ∧ s.peers.lostDue ≠ []) ∨
        (c = .primeTimeout ∧ s.seq.state = .primed ∧ s.params.primeLimit ≤ s.seq.primeTimer) ∨
        (c = .stopOvertime ∧ s.seq.state = .stopping ∧ s.params.stopLimit ≤ s.stop.stopTimer) ∨
        (c = .brakeTimerExpiry ∧ s.loop.supervision = .waiting ∧ s.params.brakeTime ≤ s.loop.supTimer) ∨
        (c = .enableExpiry ∧ ¬ (s.gov.holds.enable = true ↔ s.params.enableLimit ≤ s.gov.enableAge)) ∨
        (c = .listenWindowEnd ∧ s.seq.state = .start ∧ s.loader.progress = .listen ∧
          64 ≤ s.loader.listenCounter) ∨
        (c = .slackTimeout ∧ s.load.slackDue = true) ∨
        (s.loader.progress = .shunt ∧
          ((c = .settleInEnd ∧ s.loader.shuntPhase = .settleIn ∧ 64 ≤ s.loader.shuntCount) ∨
            (c = .measureEnd ∧ s.loader.shuntPhase = .measure ∧ 32 ≤ s.loader.shuntCount) ∨
            (c = .settleOutEnd ∧ s.loader.shuntPhase = .settleOut ∧ 64 ≤ s.loader.shuntCount))))) ∧
  (∀ (n : Nat) (s : State),
    let t := elapse n s
    let us := (s.clock.clkDiv + n) / 25
    let half (h : Nat) : Prop :=
      (t.stop.blinkOn = s.stop.blinkOn ↔ (s.stop.blinkClk + n) / h % 2 = 0) ∧
        t.stop.blinkClk = (s.stop.blinkClk + n) % h
    elapseUs n s = elapse (25 * n) s ∧ s.changesOnly [.clock, .loop, .stop, .loader] t ∧
    t.clock = { s.clock with
      clkDiv := (s.clock.clkDiv + n) % 25
      timer := if s.clock.running = true then min 6000 (s.clock.timer + us) else s.clock.timer } ∧
    t.loop = { s.loop with
      pwmPhase := (s.loop.pwmPhase + n) % 1024
      pwmDuty := if 1024 ≤ s.loop.pwmPhase + n then s.loop.duty else s.loop.pwmDuty } ∧
    t.loader = { s.loader with
      waitClk := if s.loader.progress = .wait then min 25000 (s.loader.waitClk + n) else s.loader.waitClk } ∧
    t.stop = { s.stop with
      dipTimer := if s.dipLevel = true then min 1000 (s.stop.dipTimer + us) else s.stop.dipTimer
      blinkOn := t.stop.blinkOn, blinkClk := t.stop.blinkClk } ∧
    (s.seq.state = .locked ∧ s.stop.lockCause = .selfCheck → half 12500000) ∧
    (s.seq.state = .locked ∧ s.stop.lockCause = .duplicateStation → half 3125000) ∧
    (s.seq.state ≠ .locked ∨ s.stop.lockCause = .image ∨ s.stop.lockCause = .noLock →
      t.stop.blinkOn = s.stop.blinkOn ∧ t.stop.blinkClk = s.stop.blinkClk))

/-- RESET puts every block at its reset values and the outputs at their START values (R159; the values of
R1, R24, R28, R41, R55, R71, R85, R102, R120, R126, R131, R133, R137). The level at DIP and the waiting
commands are not the part's own (the model's choice, assumption log 17). The
last encoder count 0 is the model's choice (assumption log 26). -/
def Obligations.ResetSetsEveryBlock : Prop :=
  ∀ s : State, ∃ t, exec .reset s = .next t ∧
    t.seq = { state := .start, refusal := .noRefusal, primeTimer := 0, complete := false } ∧
    t.link.line = .busy ∧ t.link.stopSlot = {} ∧ t.link.markSlot = {} ∧ t.link.reportSlot = {} ∧
    t.clock.count = 0#16 ∧ t.clock.timer = 0 ∧ t.clock.unsync = true ∧ t.clock.markRequested = false ∧
    t.clock.running = false ∧
    t.peers.rows = [] ∧
    (∀ c, t.path.entry c = none) ∧ t.path.segments = [] ∧ t.path.exclusions = [] ∧
    t.path.fingerprint = 0#16 ∧
    t.gov = {
      cue := 255, q := 0, k := 0, dPrev := 0, achieved := 0, lag := false, rate := 0, enableAge := 255
      holds := { enable := true, peerStale := false, slack := false, loadBand := false } } ∧
    t.loop.target = 0 ∧ t.loop.prevTarget = 0 ∧ t.loop.err = 0 ∧ t.loop.speed = 0 ∧
    t.loop.sat = false ∧ t.loop.duty = 512 ∧ t.loop.drive = false ∧ t.loop.brake = .set ∧
    t.loop.supervision = .idle ∧ t.loop.supTimer = 0 ∧ t.loop.brakeSample = .set ∧
    t.loop.assistTarget = 0 ∧
    t.len = { measured := 0, lastCount := 0, failures := 0, lastResult := .good, reading := false } ∧
    t.tens.sum = 0 ∧ t.tens.latched = 0 ∧ t.tens.started = false ∧ (∀ x ∈ t.tens.line, x = 0) ∧
    t.load.slackCounter = 0 ∧ t.creep = { reference := 0, armed := false } ∧
    t.recordEmpty ∧ t.stop.phase = .ramping ∧ t.stop.stopTimer = 0 ∧ t.stop.lockPending = false ∧
    t.stop.lockCause = .noLock ∧ t.stop.localLatch = false ∧ t.stop.dipTimer = 0 ∧
    t.loader.progress = .wait ∧ t.loader.listenCounter = 0 ∧
    t.dren = false ∧ t.brkrel = false ∧ t.shuntOut = false ∧ t.mselOut = false ∧
    t.faultOut = true ∧ t.linkDriven = false ∧
    t.dipLevel = s.dipLevel ∧ t.pending = s.pending

/-! ### What every step keeps -/

/-- Whenever BRKREL is active, DREN is active and the station is in PRIMED, FLYING or a controlled STOPPING
(R2): every step keeps it. -/
def Obligations.EveryStepKeepsBrakeOnDrive : Prop :=
  ∀ s t : State, s.brakeOnDrive → step s = .next t → t.brakeOnDrive

/-- Every step keeps the outputs of the Line Loop as the station state fixes them (Table 1-2, R110, R111), with the
fault record in agreement with the station state. -/
def Obligations.EveryStepKeepsOutputsFit : Prop :=
  ∀ s t : State, s.recordFits → s.outputsFit → step s = .next t → t.outputsFit

/-- Every step keeps the fault record in agreement with the station state (R137, R140, R145 to R147, R154,
R157). -/
def Obligations.EveryStepKeepsRecordFits : Prop :=
  ∀ s t : State, s.recordFits → step s = .next t → t.recordFits

/-- Every step keeps the transmit slots in order: one frame each, one attempt together, fewer than three
failed attempts, nothing to send in START and LOCKED (R28, R31, R35). -/
def Obligations.EveryStepKeepsSlotsInOrder : Prop :=
  ∀ s t : State, s.slotsInOrder → step s = .next t → t.slotsInOrder

/-- Every step keeps the delay line at 2^m entries with the running sum at their total (R126, R127); and the ranges
of the cycle timer, the clocks within a microsecond, within a PWM period and within a half of the lamp's pattern, of
the read failures, the enable age, the listen counter and the dip timer, of the station number and m, and, once an
image is loaded, of the lost limit, the enable limit, V_max and K from below (R42, R87, R110, R120, R150, R158,
R161, R164). The premises on them in the statements below hold in every state that the part reaches. -/
def Obligations.EveryStepKeepsCountsAndTotals : Prop :=
  ∀ s t : State, step s = .next t →
    (s.filterTotals → t.filterTotals) ∧ (s.countsInRange → t.countsInRange)

/-- Every step keeps progress within the current cue and on its current segment (R81 to R83, R93, R94). -/
def Obligations.EveryStepKeepsProgressInCue : Prop :=
  ∀ s t : State, s.progressInCue → step s = .next t → t.progressInCue

/-- The state after reset meets the invariants. They rest on the model's choices for the values that the spec does
not give at reset (assumption logs 8 to 10). -/
def Obligations.ResetMeetsTheInvariants : Prop :=
  State.reset.brakeOnDrive ∧ State.reset.outputsFit ∧ State.reset.recordFits ∧
    State.reset.slotsInOrder ∧ State.reset.filterTotals ∧ State.reset.countsInRange ∧
    State.reset.progressInCue

/-- Commanded progress falls, under a well-formed command, only at the acceptance of a GO, to 0, and at reset (R93). -/
def Obligations.CommandedProgressFallsOnlyAtGoOrReset : Prop :=
  ∀ (c : Instr) (s t : State), c.wf = true → exec c s = .next t → t.gov.q < s.gov.q →
    t.gov.q = 0 ∧
      (c = .reset ∨ ∃ sender body, c = .goFrame sender body ∧ t.seq.state = .primed)

/-- The first cause stands, under a well-formed command, until an accepted CLEAR or reset (R139). -/
def Obligations.FirstCauseStandsUntilClearOrReset : Prop :=
  ∀ (c : Instr) (s t : State), c.wf = true → exec c s = .next t → s.stop.first.isSome = true →
    t.stop.first = s.stop.first ∨
      (t.stop.first = none ∧
        (c = .reset ∨ ∃ sender body, c = .clearFrame sender body ∧ t.seq.state = .ready))

/-- A station in LOCKED with the loader's work over stays there until reset: the fault record is frozen, the
drive stays off with the brake set, nothing is sent, no REPORT is stored, the library and the Peer Table's
report parts stay (R4, R35, R157). -/
def Obligations.LockedIsLeftOnlyAtReset : Prop :=
  ∀ (c : Instr) (s t : State), exec c s = .next t → c ≠ .reset → s.seq.state = .locked →
    (s.loader.progress = .done ∨ s.loader.progress = .failed) → s.outputsFit → s.slotsInOrder →
    t.seq = s.seq ∧ t.stop.first = s.stop.first ∧ t.stop.later = s.stop.later ∧
      t.stop.category = s.stop.category ∧ t.stop.lockCause = s.stop.lockCause ∧
      t.stop.stopTimer = s.stop.stopTimer ∧
      t.dren = false ∧ t.brkrel = false ∧ t.linkDriven = false ∧
      t.link.stopSlot = {} ∧ t.link.markSlot = {} ∧ t.link.reportSlot = {} ∧
      t.peers.rows.map (fun r => (r.station, r.group, r.report)) =
        s.peers.rows.map (fun r => (r.station, r.group, r.report)) ∧
      t.path = s.path ∧ t.params = s.params ∧ t.creep = s.creep

/-! ### Frames and layouts -/

/-- Every frame the transmitter builds, the receive assembly reads back: kind, sender and body (R26, R27, R36,
R166). A REPORT body has 22 bytes and gives back every field (Table 11-3, R60, R166). -/
def Obligations.FramesAndReportsReadBack : Prop :=
  (∀ (kind sender : BitVec 4) (body : List Byte), body.length ≤ 24 →
    (buildFrame kind sender body).length = body.length + 4 ∧
      checkFrame (buildFrame kind sender body) = some (kind, sender, body)) ∧
  (∀ r : Report, r.toBytes.length = 22 ∧ Report.ofBytes r.toBytes = r)

/-- One wrong byte anywhere under the CRC changes the CRC, so a frame with one wrong body byte is discarded
(R27, R36). -/
def Obligations.OneWrongByteIsDiscarded : Prop :=
  (∀ (before after : List Byte) (a b : Byte), a ≠ b →
    crc16 (before ++ a :: after) ≠ crc16 (before ++ b :: after)) ∧
  (∀ (kind sender : BitVec 4) (before after : List Byte) (a b : Byte), a ≠ b →
    (before ++ a :: after).length ≤ 24 →
    checkFrame ((buildFrame kind sender (before ++ a :: after)).set (2 + before.length) b) = none)

/-- The cue timing fingerprint is the CRC of the roster bytes and then, cue by cue from 0 to 31, of a byte 0 for an
absent cue, or else of N and of each segment's duration, high byte first, and profile (R79). So it is the same for
two libraries that differ in nothing of this (R80). -/
def Obligations.FingerprintIsTheCrcOfTheTiming : Prop :=
  (∀ (p : PathStore) (roster : List Byte),
    p.computeFingerprint roster = crc16 (roster ++ (List.range 32).flatMap fun c =>
      match p.entry c with
      | none => [0#8]
      | some e => BitVec.ofNat 8 e.n :: (List.range e.n).flatMap fun j =>
        let g := p.segments.getD (e.f + j) default
        [BitVec.ofNat 8 (g.t / 256), BitVec.ofNat 8 g.t, if g.profile = .linear then 0#8 else 1#8])) ∧
  (∀ (p p' : PathStore) (roster : List Byte),
    (∀ c, c < 32 →
      (p.entry c = none ∧ p'.entry c = none) ∨
      (∃ e e', p.entry c = some e ∧ p'.entry c = some e' ∧ e.n = e'.n ∧
        ∀ j, j < e.n → (p.cueSegment e j).t = (p'.cueSegment e' j).t ∧
          (p.cueSegment e j).profile = (p'.cueSegment e' j).profile)) →
    p.computeFingerprint roster = p'.computeFingerprint roster)

/-! ### Arithmetic -/

/-- The share of a segment's length change (R103) and the line target (R104). LINEAR is the fraction itself; EASE is
formed with three truncations and lies within 0 to 65536; it is 0 at 0, 32768 halfway, and 65536 from u = 65534 on;
from one fraction to the next it falls by 2 at most (the rule's remark that it does not fall is the next statement).
The target is the floored quotient of its formula, between the segment's two ends, at La with share 0, at Lb with
the full share, and at Lb throughout a dwell. The target of the current cue at progress q on segment k is that of
record F + k, from L0 on segment 0 and from the end length of the record before on a later one, at the fraction q -
k x 65536 (R74, R81). -/
def Obligations.ShareAndLineTarget : Prop :=
  (∀ u, share .linear u = u) ∧
  (∀ u, u ≤ 65536 →
    ((share .ease u : Nat) : Int) =
      max 0 (min 65536 (3 * ((u * u / 65536 : Nat) : Int) - 2 * ((u * u / 65536 * u / 65536 : Nat) : Int)))) ∧
  (∀ u, u ≤ 65536 → share .ease u ≤ 65536) ∧
  (∀ u, u < 65536 → share .ease u ≤ share .ease (u + 1) + 2) ∧
  share .ease 0 = 0 ∧ share .ease 32768 = 32768 ∧
  (∀ u, 65534 ≤ u → u ≤ 65536 → share .ease u = 65536) ∧
  (∀ la lb f : Nat, f ≤ 65536 →
    ((lineTarget la lb f : Nat) : Int) =
      (la : Int) + (((lb : Int) - (la : Int)) * (f : Int) + 32768) / 65536 ∧
    min la lb ≤ lineTarget la lb f ∧ lineTarget la lb f ≤ max la lb ∧
    lineTarget la lb 0 = la ∧ lineTarget la lb 65536 = lb ∧ lineTarget lb lb f = lb) ∧
  (∀ (s : State) (e : CueEntry) (k q : Nat) (g : Segment), s.path.entry s.gov.cue = some e →
    s.path.segments[e.f + k]? = some g →
    (k = 0 → s.targetAt k q = lineTarget e.l0 g.lb (share g.profile (q - k * 65536))) ∧
    (∀ before, 0 < k → s.path.segments[e.f + k - 1]? = some before →
      s.targetAt k q = lineTarget before.lb g.lb (share g.profile (q - k * 65536))))

/-- R103 remarks that the EASE share rises with u and does not fall. Its own formula, with its truncations,
falls by 1 or 2 at some fractions, so this is expected to fail (assumption log 25). -/
def Obligations.EaseShareNeverFalls : Prop :=
  ∀ u v, u ≤ v → v ≤ 65536 → share .ease u ≤ share .ease v

/-- The speed command and the duty at a length sample (R107 to R110): the error against the measured length,
P + 10 ΔL clamped to V_max, SAT set where the clamp changes it, the duty within 1 to 1023 with 512, 1023 and 1
at 0, +V_max and -V_max; the previous target becomes the target used. -/
def Obligations.SpeedCommandAndDuty : Prop :=
  ∀ (target : Nat) (entering : Bool) (s : State), 1 ≤ s.params.vMax →
    let t := speedCommand target entering s
    let e : Int := (target : Int) - (s.len.measured : Int)
    let dl : Int := if entering then 0 else (target : Int) - (s.loop.prevTarget : Int)
    let p : Int := if s.params.shiftS = 0 then (s.params.kp : Int) * e
      else ((s.params.kp : Int) * e + 2 ^ (s.params.shiftS - 1)) / 2 ^ s.params.shiftS
    let vMax : Int := (s.params.vMax : Int)
    t.loop.err = e ∧
    t.loop.speed = max (-vMax) (min (p + 10 * dl) vMax) ∧
    -vMax ≤ t.loop.speed ∧ t.loop.speed ≤ vMax ∧
    (t.loop.sat = true ↔ s.loop.sat = true ∨ p + 10 * dl < -vMax ∨ vMax < p + 10 * dl) ∧
    ((t.loop.duty : Nat) : Int) = 512 + (1022 * t.loop.speed + vMax) / (2 * vMax) ∧
    1 ≤ t.loop.duty ∧ t.loop.duty ≤ 1023 ∧
    (t.loop.speed = 0 → t.loop.duty = 512) ∧ (t.loop.speed = vMax → t.loop.duty = 1023) ∧
    (t.loop.speed = -vMax → t.loop.duty = 1) ∧
    t.loop.target = target ∧ t.loop.prevTarget = target ∧
    t.loop.drive = s.loop.drive ∧ t.loop.brake = s.loop.brake ∧ s.changesOnly [.loop] t

/-- Stages 1 to 4 of the computation (R90, R91, R92): the nominal advance is 65536 / T rounded half up and lies
in 1 to 65536; the wanted advance is 0 under a hold, otherwise the nominal advance scaled by r / 128, which it
equals at r = 128, and at most 65536; the ramp clamps it to within A of the last advance; progress does not pass
the end of its segment. -/
def Obligations.StagesOneToFour : Prop :=
  (∀ t, 1 ≤ t → t ≤ 65535 →
    nominalAdvance t = (65536 + t / 2) / t ∧ 1 ≤ nominalAdvance t ∧ nominalAdvance t ≤ 65536 ∧
      wantedAdvance false 128 (nominalAdvance t) = nominalAdvance t) ∧
  nominalAdvance 1 = 65536 ∧ nominalAdvance 65535 = 1 ∧
  (∀ r d, wantedAdvance true r d = 0 ∧ wantedAdvance false r d = min 65536 ((d * r + 64) / 128) ∧
    wantedAdvance false 0 d = 0 ∧ wantedAdvance false r d ≤ 65536) ∧
  (∀ a dPrev dWant, dPrev ≤ 65536 → dWant ≤ 65536 → 1 ≤ a →
    let d := rampedAdvance a dPrev dWant
    (d : Int) = max (max 0 ((dPrev : Int) - (a : Int))) (min (dWant : Int) ((dPrev : Int) + (a : Int))) ∧
      dPrev ≤ d + a ∧ d ≤ dPrev + a ∧ d ≤ 65536 ∧
      (dPrev - a ≤ dWant → dWant ≤ dPrev + a → d = dWant)) ∧
  (∀ k q d, k * 65536 ≤ q → q ≤ (k + 1) * 65536 →
    (65536 ≤ q - k * 65536 + d → boundaryClamp k q d = (k + 1) * 65536) ∧
    (q - k * 65536 + d < 65536 → boundaryClamp k q d = q + d) ∧
    q ≤ boundaryClamp k q d ∧ boundaryClamp k q d ≤ (k + 1) * 65536)

/-- The new commanded progress of a cycle computation (R90 to R94, R98): it is the last progress or, where larger,
the progress wanted after ramp and boundary capped at the least achieved progress of the group, the own included,
plus W; in the path stop the wanted advance is 0 and the ramp step A_stop. So progress is never lowered, a rise
stays within W of the group, the applied advance exceeds the last one by at most the ramp step, and in the path stop
and under a hold, of any of the four reasons (R90), not at all; at the end of the last segment progress stays. What
a member contributes is Table 4-3: its achieved progress in PRIMED, FLYING or PARKING on the own cue, N x 65536 in
READY with COMPLETE on it, and otherwise 0 (R65). -/
def Obligations.ComputationIsCappedByTheGroup : Prop :=
  (∀ (s : State) (r : Row) (e : CueEntry), s.path.entry s.gov.cue = some e →
    (r ∈ s.members ↔ r ∈ s.peers.rows ∧ r.station ≠ s.own ∧ r.group = s.ownGroup) ∧
    (r.report = none → s.contribution r = 0) ∧
    (∀ p, r.report = some p →
      (p.cue.toNat ≠ s.gov.cue → s.contribution r = 0) ∧
      (p.cue.toNat = s.gov.cue →
        (p.stateCode ∈ [2#8, 3#8, 4#8] → s.contribution r = p.achieved.toNat) ∧
        (p.stateCode = 1#8 → p.flags.getLsbD 3 = true → s.contribution r = e.n * 65536) ∧
        (p.stateCode = 1#8 → p.flags.getLsbD 3 = false → s.contribution r = 0) ∧
        (p.stateCode ∉ [1#8, 2#8, 3#8, 4#8] → s.contribution r = 0)))) ∧
  ∀ (stopping : Bool) (s : State),
    s.gov.k * 65536 ≤ s.gov.q → s.gov.q ≤ (s.gov.k + 1) * 65536 →
    let q := s.newProgress stopping
    let held := s.gov.holds.enable = true ∨ s.gov.holds.peerStale = true ∨ s.gov.holds.slack = true ∨
      s.gov.holds.loadBand = true
    let t := (s.path.cueSegment s.currentEntry s.gov.k).t
    let wanted := if stopping = true ∨ held then 0
      else min 65536 (((65536 + t / 2) / t * s.gov.rate + 64) / 128)
    let a := if stopping = true then s.params.stopA else s.params.rampA
    let ramped := max (s.gov.dPrev - a) (min wanted (s.gov.dPrev + a))
    let tried := if 65536 ≤ s.gov.q - s.gov.k * 65536 + ramped then (s.gov.k + 1) * 65536
      else s.gov.q + ramped
    (∃ least, (least = s.gov.achieved ∨ ∃ r ∈ s.members, least = s.contribution r) ∧
      least ≤ s.gov.achieved ∧ (∀ r ∈ s.members, least ≤ s.contribution r) ∧
      q = max s.gov.q (min tried (least + s.params.leadW))) ∧
    s.gov.q ≤ q ∧ q ≤ (s.gov.k + 1) * 65536 ∧
    (s.gov.q < q →
      q ≤ s.gov.achieved + s.params.leadW ∧
        ∀ r ∈ s.members, q ≤ s.contribution r + s.params.leadW) ∧
    q - s.gov.q ≤ s.gov.dPrev + a ∧
    ((stopping = true ∨ held) → q - s.gov.q ≤ s.gov.dPrev) ∧
    (s.gov.q = (s.gov.k + 1) * 65536 → q = s.gov.q)

/-- An image is sound exactly when each of the fourteen checks of Table 10-1 passes (R161, R167). -/
def Obligations.ImageSoundIffTheFourteenChecksPass : Prop :=
  ∀ img : List Byte,
    let p := imageParams img
    firstFailedCheck img = none ↔
      field2 img (img.length - 2) = (crc16 (img.take (img.length - 2))).toNat ∧
      field2 img 0 = 1 ∧
      p.station ≤ 15 ∧
      (5 ≤ p.lostLimit ∧ p.lostLimit ≤ 250 ∧ 2 ≤ p.enableLimit ∧ p.enableLimit ≤ 250 ∧
        1 ≤ p.brakeTime ∧ p.brakeTime ≤ 250 ∧ 1 ≤ p.slackLimit ∧ p.slackLimit ≤ 250 ∧
        10 ≤ p.primeLimit ∧ p.primeLimit ≤ 1000 ∧ 1 ≤ p.stopLimit ∧ p.stopLimit ≤ 2000) ∧
      (1 ≤ p.leadW ∧ 1 ≤ p.rampA ∧ p.rampA ≤ 65536 ∧ 1 ≤ p.stopA ∧ p.stopA ≤ 65536 ∧
        1 ≤ p.followTol ∧ p.followTol ≤ 10000 ∧ p.followTol < p.tripTol ∧
        1 ≤ p.startTol ∧ p.startTol ≤ 10000 ∧ p.shiftS ≤ 15 ∧ 1 ≤ p.vMax ∧ p.vMax ≤ 4000) ∧
      byteAt img 30 < 4 ∧
      (p.tSlack < p.tMax ∧ p.gLo ≤ p.gHi ∧ p.gHi ≤ 262140 ∧ p.m ≤ 5 ∧ p.gain ≠ 0 ∧ p.kScale ≠ 0 ∧
        p.lZero ≤ 999999 ∧ 1 ≤ p.creepLimit ∧ p.creepLimit ≤ 1000 ∧ p.dipCode ≤ 3) ∧
      (∀ n, n < 16 → byteAt img (58 + n) / 16 ≤ 2 ∧
        (byteAt img (58 + n) / 16 = 1 → 1 ≤ byteAt img (58 + n) % 16 ∧ byteAt img (58 + n) % 16 ≤ 8) ∧
        (byteAt img (58 + n) / 16 ≠ 1 → byteAt img (58 + n) % 16 = 0)) ∧
      byteAt img (58 + p.station) / 16 = 1 ∧
      (∀ g, 1 ≤ g → g ≤ 8 →
        ((List.range 16).filter fun n => byteAt img (58 + n) = 16 + g).length ≤ 4) ∧
      byteAt img 74 ≤ 32 ∧
      (∀ c, c < 32 → byteAt img (171 + 5 * c) ≠ 0 →
        byteAt img (171 + 5 * c) ≤ 16 ∧
          byteAt img (171 + 5 * c + 1) + byteAt img (171 + 5 * c) ≤ field2 img 331 ∧
          field3 img (171 + 5 * c + 2) ≤ 999999) ∧
      (∀ j, j < field2 img 331 → field2 img (333 + 6 * j) ≠ 0 ∧ byteAt img (333 + 6 * j + 2) ≤ 1 ∧
        field3 img (333 + 6 * j + 3) ≤ 999999) ∧
      (∀ i, i < byteAt img 74 →
        (byteAt img (75 + 3 * i) < 32 ∧ byteAt img (171 + 5 * byteAt img (75 + 3 * i)) ≠ 0) ∧
          1 ≤ byteAt img (75 + 3 * i + 1) ∧ byteAt img (75 + 3 * i + 1) ≤ 8 ∧
          (byteAt img (75 + 3 * i + 2) ≤ 31 ∨ byteAt img (75 + 3 * i + 2) = 255))

/-- The rows of the Peer Table: one for each roster winch, in order of station number, with its roster group,
age 0 and no report part (R54, R55); and the presence of a row: the own row is FRESH (R55, R56), a peer row by Table
4-1 with the lost limit (R56). -/
def Obligations.RowsAndPresence : Prop :=
  (∀ roster : List Byte,
    (∀ n, (∃ r ∈ rowsOfRoster roster, r.station = n) ↔
      n < 16 ∧ rosterRole (roster.getD n 0#8) = .winch) ∧
    (rowsOfRoster roster).Pairwise (fun r r' => r.station < r'.station) ∧
    (∀ r ∈ rowsOfRoster roster,
      r.group = rosterGroup (roster.getD r.station 0#8) ∧ r.age = 0 ∧ r.report = none)) ∧
  (∀ (limit : Nat) (r : Row), 5 ≤ limit →
    (r.report = none → r.peerPresence limit = .silent) ∧
    (r.report.isSome = true →
      (r.age ≤ 2 → r.peerPresence limit = .fresh) ∧
      (3 ≤ r.age → r.age < limit → r.peerPresence limit = .stale) ∧
      (limit ≤ r.age → r.peerPresence limit = .lost))) ∧
  (∀ (s : State) (r : Row),
    (r.station = s.own → s.presence r = .fresh) ∧
    (r.station ≠ s.own → s.presence r = r.peerPresence s.params.lostLimit))

/-! ### Start-up -/

/-- The image read (R160): the end of WAIT sends the read command and a zero address; the fixed bytes with a segment
count of at most 256 are kept; the last CRC byte ends the read and begins CHECK. The command lets the chip clock run
to its moment first (the model's choice, assumption log 3). -/
def Obligations.ImageReadRunsToCheck : Prop :=
  ∀ s : State, s.quiet = true → s.seq.state = .start →
    (s.loader.progress = .wait →
      ∃ t, exec .memoryReadStart s = .next t ∧
        t.loader = { s.loader with
          progress := .read, waitClk := 25000, msel := true
          mdo := [0x03#8, 0x00#8, 0x00#8, 0x00#8], buffer := [] } ∧
        (elapse (25000 - s.loader.waitClk) s).changesOnly [.loader] t) ∧
    (∀ bytes : List Byte, s.loader.progress = .read → s.loader.buffer = [] → bytes.length = 333 →
      imageSegmentCount bytes ≤ 256 →
      ∃ t, exec (.fixedBytesRead bytes) s = .next t ∧ t.loader = { s.loader with buffer := bytes } ∧
        s.changesOnly [.loader] t) ∧
    (∀ bytes : List Byte, s.loader.progress = .read → s.loader.buffer.length = 333 →
      bytes.length = 6 * imageSegmentCount s.loader.buffer + 2 →
      ∃ t, exec (.imageReadComplete bytes) s = .next t ∧
        t.loader = { s.loader with
          buffer := s.loader.buffer ++ bytes, msel := false, progress := .check } ∧
        s.changesOnly [.loader] t)

/-- A sound image is loaded in one event (R162, R55, R79, R126, R136): the values, the roster's rows, the library
with its fingerprint, the delay line of 2^m zeros; SHUNT goes active with the request of the check. That the delay
line then holds zeros is the model's choice (assumption log 10). Every field stands at its offset of Table 11-5,
high byte first, the two signed ones in two's complement (R167). -/
def Obligations.SoundImageIsLoaded : Prop :=
  ∀ s : State, s.quiet = true → s.seq.state = .start → s.loader.progress = .check →
    firstFailedCheck s.loader.buffer = none →
    ∃ t, exec .imageCheckComplete s = .next t ∧
      t.params = imageParams s.loader.buffer ∧
      (let img := s.loader.buffer
      let signed (n : Nat) : Int := if n < 32768 then (n : Int) else (n : Int) - 65536
      (∀ i, field2 img i = byteAt img i * 256 + byteAt img (i + 1) ∧
        field3 img i = byteAt img i * 65536 + byteAt img (i + 1) * 256 + byteAt img (i + 2)) ∧
      t.params = {
        station := byteAt img 2, lostLimit := byteAt img 3, enableLimit := byteAt img 4
        brakeTime := byteAt img 5, slackLimit := byteAt img 6, primeLimit := field2 img 7
        stopLimit := field2 img 9, leadW := field2 img 11, rampA := field3 img 13, stopA := field3 img 16
        followTol := field2 img 19, tripTol := field2 img 21, startTol := field2 img 23
        kp := field2 img 25, shiftS := byteAt img 27, vMax := field2 img 28
        pwmInvert := decide (byteAt img 30 % 2 = 1), dirNegative := decide (byteAt img 30 / 2 % 2 = 1)
        tMax := field2 img 31, tSlack := field2 img 33, gLo := field3 img 35, gHi := field3 img 38
        m := byteAt img 41, tOffset := signed (field2 img 42), gain := field2 img 44
        shuntRef := signed (field2 img 46), shuntTol := field2 img 48, lZero := field3 img 50
        kScale := field2 img 53, creepLimit := field2 img 55, dipCode := byteAt img 57
        roster := t.params.roster } ∧
      t.params.roster.length = 16 ∧
      (∀ n, n < 16 → (t.params.roster.getD n 0#8).toNat = byteAt img (58 + n)) ∧
      (∀ c, c < 32 → t.path.entry c = if byteAt img (171 + 5 * c) = 0 then none
        else some {
          n := byteAt img (171 + 5 * c), f := byteAt img (172 + 5 * c), l0 := field3 img (173 + 5 * c) }) ∧
      t.path.segments.length = field2 img 331 ∧
      (∀ j, j < field2 img 331 → t.path.segments[j]? = some {
        t := field2 img (333 + 6 * j)
        profile := if byteAt img (335 + 6 * j) = 0 then .linear else .ease
        lb := field3 img (336 + 6 * j) }) ∧
      t.path.exclusions.length = byteAt img 74 ∧
      (∀ i, i < byteAt img 74 → t.path.exclusions[i]? = some {
        ownCue := byteAt img (75 + 3 * i), otherGroup := byteAt img (76 + 3 * i)
        otherCue := byteAt img (77 + 3 * i) })) ∧
      t.path = { imagePath s.loader.buffer with
        fingerprint := (imagePath s.loader.buffer).computeFingerprint (imageRoster s.loader.buffer) } ∧
      t.peers.rows = rowsOfRoster (imageRoster s.loader.buffer) ∧
      t.tens = { s.tens with
        line := List.replicate (2 ^ t.params.m) 0, sum := 0, requested := true } ∧
      t.loader = { s.loader with
        progress := .shunt, shunt := true, shuntPhase := .settleIn, shuntCount := 0, shuntSum := 0 } ∧
      s.changesOnly [.peers, .path, .tens, .loader, .params] t

/-- A segment count above 256 at the end of the fixed bytes, and a failed check, lock the station with IMAGE
and source 255; nothing of the image is loaded (R156, R160, R161). -/
def Obligations.FailedImageLocks : Prop :=
  ∀ s : State, s.quiet = true → s.seq.state = .start → s.recordEmpty → s.loader.shunt = false →
    (∀ bytes : List Byte, s.loader.progress = .read → s.loader.buffer = [] → bytes.length = 333 →
      256 < imageSegmentCount bytes →
      ∃ t, exec (.fixedBytesRead bytes) s = .next t ∧ s.lockedFromStart .image 255 .image t) ∧
    (s.loader.progress = .check → s.loader.msel = false → firstFailedCheck s.loader.buffer ≠ none →
      ∃ t, exec .imageCheckComplete s = .next t ∧ s.lockedFromStart .image 255 .image t)

/-- The shunt span check (R136, R163, R42): after 64 samples Measure begins; at the end of 32 more SHUNT goes
inactive, and the station goes on if floor(sum / 32) + offset lies within the tolerance of the reference and
locks with SELF_CHECK otherwise; after 64 more the listen window opens with the cycle timer at 3000. -/
def Obligations.ShuntSpanCheckRuns : Prop :=
  ∀ s : State, s.seq.state = .start → s.loader.progress = .shunt →
    (s.loader.shuntPhase = .settleIn → 64 ≤ s.loader.shuntCount →
      ∃ t, exec .settleInEnd s = .next t ∧
        t.loader = { s.loader with shuntPhase := .measure, shuntCount := 0, shuntSum := 0 } ∧
        s.changesOnly [.loader] t) ∧
    (s.loader.shuntPhase = .measure → 32 ≤ s.loader.shuntCount →
      ∃ t, exec .measureEnd s = .next t ∧
        (if (s.loader.shuntSum / 32 + s.params.tOffset - s.params.shuntRef).natAbs ≤ s.params.shuntTol then
          t.loader = { s.loader with shunt := false, shuntPhase := .settleOut, shuntCount := 0 } ∧
            s.changesOnly [.loader] t
        else s.recordEmpty → s.loader.msel = false →
          s.lockedFromStart .selfCheck s.own .selfCheck t)) ∧
    (s.loader.shuntPhase = .settleOut → 64 ≤ s.loader.shuntCount →
      ∃ t, exec .settleOutEnd s = .next t ∧
        t.loader = { s.loader with progress := .listen, listenCounter := 0 } ∧
        t.clock = { s.clock with running := true, timer := 3000 } ∧
        s.changesOnly [.clock, .loader] t)

/-- The end of the listen window (Table 10-2, R165, R117, R133, R156): READY or STOPPED, the causes, the
supervision and the Creep Watch by the last read result and the last BRKFB sample, and no STOP frame. -/
def Obligations.ListenWindowEndsAsTable102 : Prop :=
  ∀ s : State, s.seq.state = .start → s.loader.progress = .listen → 64 ≤ s.loader.listenCounter →
    s.recordEmpty → s.loop.drive = false → s.loop.brake = .set → s.link.nextPending = none →
    ∃ t, exec .listenWindowEnd s = .next t ∧ t.loader = { s.loader with progress := .done } ∧
      s.changesOnly [.seq, .loop, .creep, .stop, .loader] t ∧
      (s.len.lastResult = .good → s.loop.brakeSample = .set →
        t.seq = { s.seq with state := .ready } ∧ t.stop = s.stop ∧ t.faultOut = false ∧
        t.loop = { s.loop with supervision := .matched } ∧
        t.creep = { reference := s.len.measured, armed := true }) ∧
      (s.len.lastResult = .good → s.loop.brakeSample = .released →
        t.seq = { s.seq with state := .stopped } ∧ t.faultOut = true ∧
        t.stop = { s.stop with
          first := some (.brakeNotSet, s.own), category := .assist, assist := true } ∧
        t.loop.supervision = .failed ∧ t.loop.drive = true ∧ t.loop.brake = .set ∧ s.heldByDrive t ∧
        t.creep = s.creep) ∧
      (s.len.lastResult = .failed → s.loop.brakeSample = .set →
        t.seq = { s.seq with state := .stopped } ∧ t.faultOut = true ∧
        t.stop = { s.stop with first := some (.encoder, s.own), category := .immediate } ∧
        t.loop = { s.loop with supervision := .matched, duty := 512, speed := 0 } ∧
        t.creep = { reference := s.len.measured, armed := true }) ∧
      (s.len.lastResult = .failed → s.loop.brakeSample = .released →
        t.seq = { s.seq with state := .stopped } ∧ t.faultOut = true ∧
        t.stop = { s.stop with
          first := some (.encoder, s.own), later := addLater 0#24 .brakeNotSet
          category := .immediate } ∧
        t.loop = { s.loop with supervision := .failed, duty := 512, speed := 0 } ∧ t.creep = s.creep)

/-! ### The strobe and the local inputs -/

/-- A strobe (R113, R126, R127, R136, R149, R150, R153): the tension sample joins the delay line, or fills it when
it is the first, and is counted by the shunt check; BRKFB and the three local inputs are kept; the local-stop latch
is cleared; in the operating states LOCAL_STOP, SUPPLY_DIP and DRIVE_FAULT stand in the fault record where their
conditions hold. `dt` microseconds pass before the command (the model's choice, assumption log 6). The filter times
are those of Table 9-5. A strobe that finds no local input, no dip that has lasted its filter time, and no BRKFB sample
to be acted on (a supervision IDLE or FAILED, MATCHED and still matching, or WAITING and not matching yet: R113 to
R116) keeps its samples and does no more; in START and LOCKED no local input raises anything. -/
def Obligations.StrobeTakesItsSamples : Prop :=
  dipFilterTime 0 = 0 ∧ dipFilterTime 1 = 250 ∧ dipFilterTime 2 = 500 ∧ dipFilterTime 3 = 1000 ∧
  ∀ (dt : Nat) (i : StrobeInputs) (localFirst : Bool) (s : State), s.quiet = true →
    let u := elapseUs dt s
    ∃ t, exec (.strobe dt i localFirst) s = .next t ∧
      t.loop.brakeSample = i.brkfb ∧ t.stop.localLatch = false ∧ t.stop.lstopSample = i.lstop ∧
      t.stop.dipSample = s.dipLevel ∧ t.stop.dfltSample = i.dflt ∧
      (s.tens.requested = true →
        t.tens.line = (if s.tens.started then s.tens.line.tail ++ [i.tension.toInt]
          else List.replicate (2 ^ s.params.m) i.tension.toInt) ∧
        t.tens.sum = (if s.tens.started then s.tens.sum - s.tens.line.headD 0 + i.tension.toInt
          else 2 ^ s.params.m * i.tension.toInt) ∧
        t.tens.started = true ∧ t.tens.latched = s.tens.latched ∧
        t.loader = (if s.loader.progress = .shunt then { u.loader with
            shuntCount := s.loader.shuntCount + 1
            shuntSum := if s.loader.shuntPhase = .measure then s.loader.shuntSum + i.tension.toInt
              else s.loader.shuntSum }
          else u.loader)) ∧
      (s.tens.requested = false → t.tens = s.tens ∧ t.loader = u.loader) ∧
      (s.seq.state.operating = true →
        (s.stop.localLatch = true ∨ i.lstop = true → t.holdsCause .localStop) ∧
        (i.dflt = true → t.holdsCause .driveFault) ∧
        (s.dipLevel = true → dipFilterTime s.params.dipCode ≤ u.stop.dipTimer →
          t.holdsCause .supplyDip)) ∧
      (let raisesNothing := s.seq.state.operating = false ∨
          (s.stop.localLatch = false ∧ i.lstop = false ∧ i.dflt = false ∧
            (s.dipLevel = false ∨ u.stop.dipTimer < dipFilterTime s.params.dipCode))
        let matching := i.brkfb = (if s.loop.brake = .set then .set else .released)
        raisesNothing →
        (s.loop.supervision = .idle ∨ s.loop.supervision = .failed ∨
          (s.loop.supervision = .matched ∧ matching) ∨ (s.loop.supervision = .waiting ∧ ¬ matching)) →
        t.seq = s.seq ∧ t.creep = s.creep ∧ t.loop = { u.loop with brakeSample := i.brkfb } ∧
          t.stop = { u.stop with
            localLatch := false, lstopSample := i.lstop, dipSample := s.dipLevel, dfltSample := i.dflt } ∧
          (s.link.line = .busy ∨ s.link.nextPending = none ∨ s.seq.state.operating = false →
            t.link = s.link)) ∧
      u.changesOnly [.link, .seq, .loop, .tens, .creep, .stop, .loader] t

/-- The first matching strobe confirms the brake (R114, R21, R143, R133): the supervision is MATCHED; under SET a
park ends in READY and a settled stop in STOPPED, with the drive off, and the Creep Watch arms, save in STOPPED with
ASSIST; under RELEASE nothing else changes. `dt` microseconds pass before the command (the model's choice, assumption
log 6). -/
def Obligations.MatchingStrobeConfirmsTheBrake : Prop :=
  ∀ (dt : Nat) (i : StrobeInputs) (localFirst : Bool) (s : State), s.quiet = true →
    s.seq.state.operating = true → i.lstop = false → i.dflt = false → s.dipLevel = false →
    s.stop.localLatch = false → s.loop.supervision = .waiting → s.link.line = .busy →
    i.brkfb = (if s.loop.brake = .set then .set else .released) →
    ∃ t, exec (.strobe dt i localFirst) s = .next t ∧
      t.loop.supervision = .matched ∧ t.loop.brake = s.loop.brake ∧ t.loop.supTimer = s.loop.supTimer ∧
      t.stop.first = s.stop.first ∧ t.stop.category = s.stop.category ∧ t.stop.assist = s.stop.assist ∧
      t.stop.phase = s.stop.phase ∧ t.link = s.link ∧
      (if s.loop.brake = .set ∧
          (s.seq.state = .parking ∨ (s.seq.state = .stopping ∧ s.stop.phase = .settling)) then
        t.seq = { s.seq with state := if s.seq.state = .parking then .ready else .stopped } ∧
          t.loop.drive = false ∧ t.loop.duty = 512 ∧ t.loop.speed = 0 ∧
          t.creep = { reference := s.len.measured, armed := true }
      else if s.loop.brake = .set ∧
          (s.seq.state = .stopping ∨ (s.seq.state = .stopped ∧ s.stop.assist = false)) then
        t.seq = s.seq ∧ t.loop.drive = s.loop.drive ∧ t.loop.duty = s.loop.duty ∧
          t.creep = { reference := s.len.measured, armed := true }
      else t.seq = s.seq ∧ t.loop.drive = s.loop.drive ∧ t.loop.duty = s.loop.duty ∧ t.creep = s.creep)

/-- A strobe that no longer matches a confirmed command fails the brake (R116): under SET BRAKE_NOT_SET and the
supervision FAILED; under RELEASE, in the states that command it, BRAKE_NOT_RELEASED, and the immediate stop sets the
brake, whose sample already shows set. `dt` microseconds pass before the command (the model's choice, assumption log
6). -/
def Obligations.LostFeedbackFailsTheBrake : Prop :=
  ∀ (dt : Nat) (i : StrobeInputs) (localFirst : Bool) (s : State), s.quiet = true →
    s.seq.state.operating = true → i.lstop = false → i.dflt = false → s.dipLevel = false →
    s.stop.localLatch = false → s.loop.supervision = .matched → s.recordFits → s.outputsFit →
    i.brkfb ≠ (if s.loop.brake = .set then .set else .released) →
    ∃ t, exec (.strobe dt i localFirst) s = .next t ∧
      (s.loop.brake = .set → t.loop.supervision = .failed ∧ t.loop.brake = .set ∧
        t.holdsCause .brakeNotSet ∧
        (s.seq.state = .ready → t.seq.state = .stopped ∧ t.stop.category = .assist ∧
          t.loop.drive = true)) ∧
      (s.loop.brake = .release → t.loop.supervision = .matched ∧ t.loop.brake = .set ∧
        t.loop.drive = false ∧ t.holdsCause .brakeNotReleased ∧ t.seq.state = .stopped ∧
        t.stop.category = .immediate)

/-- The events of LSTOP and DIP (R149, R150): an active edge of LSTOP sets the latch in every state; a change of
DIP to active or to inactive sets the dip timer to 0. -/
def Obligations.LocalInputEvents : Prop :=
  ∀ s : State, s.quiet = true →
    (∃ t, exec .lstopEdge s = .next t ∧ t.stop = { s.stop with localLatch := true } ∧
      s.changesOnly [.link, .stop] t) ∧
    (s.dipLevel = false → ∃ t, exec .dipActive s = .next t ∧ t.dipLevel = true ∧
      t.stop = { s.stop with dipTimer := 0 } ∧ s.changesOnly [.link, .stop, .dipLevel] t) ∧
    (s.dipLevel = true → ∃ t, exec .dipActive s = .next t ∧ s.changesOnly [.link] t) ∧
    (∃ t, exec .dipInactive s = .next t ∧ t.dipLevel = false ∧
      t.stop = { s.stop with dipTimer := 0 } ∧ s.changesOnly [.link, .stop, .dipLevel] t)

/-! ### The Cycle Clock and the cycle-counted timers -/

/-- A free-running cycle start (R49, R43): the count goes up by 1, UNSYNC sets, the own MARK is withdrawn and its
flag clears, the timer is 0, and the cycle start reaches every block. `u` is the state when the timer has reached
6000. The command lets the chip clock run to its moment first (the model's choice, assumption log 3). What the cycle
start leaves to the due events after it, the holds and the timeouts, and the list of members due are the model's
choice (assumption log 4). -/
def Obligations.FreeRunningStartReachesEveryBlock : Prop :=
  ∀ s : State, s.quiet = true → s.clock.running = true → s.clock.timer ≤ 6000 → s.clock.clkDiv < 25 →
    ∃ u t, u = elapse (s.clocksUntil 6000) s ∧ u.clock.timer = 6000 ∧
      exec .freeRunningCycleStart s = .next t ∧
      t.clock = { u.clock with
        count := s.clock.count + 1#16, unsync := true, markRequested := false, timer := 0 } ∧
      (s.link.line = .busy → t.link = s.markWithdrawn) ∧ u.cycleStarted t

/-- A MARK accepted with the timer at 3000 or more is a cycle start (R46, R47, R43): the count takes the carried
value, UNSYNC clears, the own MARK is withdrawn and its flag clears, the timer is 0. The station's own MARK starts
the cycle here as at every other station, when it is sent, and leaves its slot EMPTY (R32, R37). `dt` microseconds
pass before the command (the model's choice, assumption log 6). What the cycle start leaves to the due events after
it, the holds and the timeouts, and the list of members due are the model's choice (assumption log 4). -/
def Obligations.MarkAtThreeThousandStartsACycle : Prop :=
  (∀ (dt : Nat) (sender : BitVec 4) (hi lo : Byte) (s : State), s.quiet = true →
    s.link.assembling = true → s.clock.running = true → s.roleOf sender.toNat ≠ .noRole →
    ((s.seq.state.operating = true ∧ sender.toNat ≠ s.own) ∨
      (s.seq.state = .start ∧ s.loader.progress = .listen)) →
    3000 ≤ (elapseUs dt s).clock.timer →
    ∃ u t, u = elapseUs dt s ∧ exec (.markFrame dt sender [hi, lo]) s = .next t ∧
      t.clock = { u.clock with
        count := BitVec.ofNat 16 (hi.toNat * 256 + lo.toNat)
        unsync := false, markRequested := false, timer := 0 } ∧
      t.link = { s.markWithdrawn with line := .busy, assembling := false } ∧ u.cycleStarted t) ∧
  (∀ (carried : Word16) (s : State), s.quiet = true → s.seq.state.operating = true → s.own ≤ 15 →
    s.roleOf s.own = .winch → s.link.attempting = some .mark → s.link.markSlot.renewed = none →
    s.link.txFrame = buildFrame kindMark s.ownNibble (markBody carried) → s.clock.running = true →
    3000 ≤ s.clock.timer →
    ∃ t, exec .frameSent s = .next t ∧
      t.clock = { s.clock with count := carried, unsync := false, markRequested := false, timer := 0 } ∧
      t.link = { s.link with markSlot := {}, txFrame := [], line := .busy, assembling := false } ∧
      s.cycleStarted t)

/-- An early mark is ignored (R48): from another station it changes nothing beyond the end of its frame; the
station's own leaves the clock, and every block but the slot that has sent it, as they were. That slot is EMPTY,
also after a withdrawal (R34), or PENDING with content renewed meanwhile (R33). `dt` microseconds pass before the
command (the model's choice, assumption log 6). -/
def Obligations.EarlyMarkIsIgnored : Prop :=
  (∀ (dt : Nat) (sender : BitVec 4) (body : List Byte) (s : State), s.quiet = true →
    s.link.assembling = true → body.length ≤ 24 →
    ¬ (s.seq.state.operating = true ∧ sender.toNat = s.own) → (elapseUs dt s).clock.timer < 3000 →
    exec (.markFrame dt sender body) s = .next (elapseUs dt s).frameOver) ∧
  (∀ (carried : Word16) (s : State), s.quiet = true → s.seq.state.operating = true →
    s.link.attempting = some .mark → s.link.txFrame = buildFrame kindMark s.ownNibble (markBody carried) →
    s.clock.timer < 3000 →
    ∃ t, exec .frameSent s = .next t ∧ t.clock = s.clock ∧ s.changesOnly [.link] t ∧
      t.link = { s.link with
        markSlot :=
          if s.link.markSlot.withdrawn = false ∧ s.link.markSlot.renewed.isSome = true then
            { st := .pending, body := s.link.markSlot.renewed.getD [] }
          else {}
        txFrame := [], line := .busy, assembling := false })

/-- The own MARK falls due (R44, R34, R45): at 4000 + 20 x the own station number the slot is requested and the flag
sets, once in a cycle and only in the operating states; on an IDLE line with no STOP waiting its attempt begins at
once and carries the count plus 1. The model's choices: the command lets the chip clock run to its moment first
(assumption log 3), and an attempt makes the line BUSY whatever its own start bit reads back as (assumption log
31). -/
def Obligations.MarkIsRequestedWhenDue : Prop :=
  ∀ s : State, s.quiet = true → s.own ≤ 15 → s.clock.clkDiv < 25 →
    (s.seq.state.operating = true → s.clock.running = true → s.clock.markRequested = false →
      s.clock.timer ≤ 4000 + 20 * s.own → s.link.markSlot = {} → s.link.attempting = none →
      ∃ u t, u = elapse (s.clocksUntil (4000 + 20 * s.own)) s ∧ u.clock.timer = 4000 + 20 * s.own ∧
        exec .markDue s = .next t ∧ t.clock = { u.clock with markRequested := true } ∧
        (s.link.line = .busy → t.link = { s.link with markSlot := { st := .pending } }) ∧
        (s.link.line = .idle → s.link.stopSlot.st ≠ .pending →
          t.link = { s.link with
            markSlot := { st := .inAttempt }
            txFrame := buildFrame kindMark s.ownNibble (markBody (s.clock.count + 1#16))
            line := .busy, assembling := true }) ∧
        u.changesOnly [.link, .clock] t) ∧
    (s.seq.state.operating = false → exec .markDue s = .next s) ∧
    (s.clock.markRequested = true → ∃ t, exec .markDue s = .next t ∧ s.changesOnly [.link] t)

/-- The events that the part's own counts make due. The two holds recomputed from ages: PEER_STALE is set exactly
while a member row is STALE (R66, R56), ENABLE exactly while the enable age is at or above the enable limit (R87).
The causes of the timers (R115, R131, R144): each is taken with the own station as source when its timer or counter
is at its limit; the brake's fault is chosen by the command that stands, and the supervision is FAILED before it is
taken. What taking a cause does is stated by Tables 9-3 and 9-4. That the slack counter at its limit is noted for a
step of its own is the model's choice (`slackDue`, assumption log 4). That the two holds are written in START and in
LOCKED too is the model's choice among sections of the spec that disagree (assumption logs 27 and 20). -/
def Obligations.DueEventsTakeEffect : Prop :=
  ∀ s : State,
    (∃ t, exec .peerStale s = .next t ∧
      (t.gov.holds.peerStale = true ↔ ∃ r ∈ s.peers.rows, r.station ≠ s.own ∧ r.group = s.ownGroup ∧
        r.report.isSome = true ∧ 3 ≤ r.age ∧ r.age < s.params.lostLimit) ∧
      t.gov = { s.gov with holds := { s.gov.holds with peerStale := t.gov.holds.peerStale } } ∧
      s.changesOnly [.link, .gov] t) ∧
    (∃ t, exec .enableExpiry s = .next t ∧
      (t.gov.holds.enable = true ↔ s.params.enableLimit ≤ s.gov.enableAge) ∧
      t.gov = { s.gov with holds := { s.gov.holds with enable := t.gov.holds.enable } } ∧
      s.changesOnly [.link, .gov] t) ∧
    (s.seq.state = .stopping → s.params.stopLimit ≤ s.stop.stopTimer →
      exec .stopOvertime s = .next (beginAttempt (takeCause .stopOvertime s.own s))) ∧
    (s.loop.supervision = .waiting → s.params.brakeTime ≤ s.loop.supTimer →
      exec .brakeTimerExpiry s = .next (beginAttempt (takeCause
        (if s.loop.brake = .release then .brakeNotReleased else .brakeNotSet) s.own
        (s.withLoop { s.loop with supervision := .failed })))) ∧
    (s.load.slackDue = true →
      exec .slackTimeout s = .next (beginAttempt (takeCause .slackTimeout s.own
        (s.withLoad { s.load with slackDue := false }))))

/-- The prime timeout (R17, R20, R21, R97): refusal PRIME_TIMEOUT and PARKING, with the drive on, SET
commanded, the target and progress frozen; where the brake still shows set, the station passes straight through
to READY with the drive off and the Creep Watch armed. -/
def Obligations.PrimeTimeoutParks : Prop :=
  ∀ s : State, s.seq.state = .primed → s.params.primeLimit ≤ s.seq.primeTimer → s.outputsFit →
    ∃ t, exec .primeTimeout s = .next t ∧
      t.seq = { s.seq with
        refusal := .primeTimeout
        state := if s.loop.brakeSample = .set then .ready else .parking } ∧
      t.loop.brake = .set ∧ t.loop.supTimer = 0 ∧
      t.loop.target = s.loop.target ∧ t.loop.prevTarget = s.loop.target ∧
      t.gov = { s.gov with dPrev := 0 } ∧
      (s.loop.brakeSample = .set →
        t.loop.supervision = .matched ∧ t.loop.drive = false ∧ t.loop.duty = 512 ∧ t.loop.speed = 0 ∧
          t.creep = { reference := s.len.measured, armed := true }) ∧
      (s.loop.brakeSample = .released →
        t.loop.supervision = .waiting ∧ t.loop.drive = true ∧ t.loop.duty = s.loop.duty ∧
          t.loop.speed = s.loop.speed ∧ t.creep = s.creep) ∧
      s.changesOnly [.link, .seq, .gov, .loop, .creep] t

/-- Members lost at a cycle start (R68, R139, R140, R141): each raises LOST_MEMBER once, in order; from PRIMED,
FLYING or PARKING the first opens the record and starts a controlled stop with a STOP frame, the rest join the
later-fault set and request no frame. The list of members due is the model's own field (assumption log 4). -/
def Obligations.LostMembersStopTheFlight : Prop :=
  ∀ (n : Nat) (others : List Nat) (s : State), s.peers.lostDue = n :: others →
    s.seq.state.inFlight = true → s.recordEmpty →
    ∃ t, exec .lostMember s = .next t ∧ t.peers = { s.peers with lostDue := [] } ∧
      t.seq = { s.seq with state := .stopping } ∧
      t.stop = { s.stop with
        first := some (.lostMember, n)
        later := if others = [] then 0#24 else 1#24
        category := .controlled, phase := .ramping, stopTimer := 0 } ∧
      (s.link.line = .busy → t.link = s.link.setSlot .stop
        (s.link.stopSlot.request (stopBody s.ownGroup 1 s.own))) ∧
      s.changesOnly [.link, .peers, .seq, .stop] t

/-- The chip clock's own events (R110, R158): at a PWM boundary the period takes up the duty in force, high for D of
1024 clocks or, inverted, for 1024 - D; the lamp of SELF_CHECK and DUPLICATE_STATION toggles at the end of its half
of 500 or 125 ms, and is steady for IMAGE. The command lets the chip clock run to its moment first (the model's
choice, assumption log 3). -/
def Obligations.ChipClockEvents : Prop :=
  ∀ s : State, s.quiet = true →
    (s.loop.pwmPhase < 1024 →
      ∃ t, exec .pwmPeriodStart s = .next t ∧
        t.loop = { s.loop with pwmPhase := 0, pwmDuty := s.loop.duty } ∧
        t.spdHighClocks = (if s.params.pwmInvert then 1024 - s.loop.duty else s.loop.duty) ∧
        (elapse (1024 - s.loop.pwmPhase) s).changesOnly [.link] t) ∧
    (s.seq.state = .locked →
      (∀ half, (s.stop.lockCause = .selfCheck ∧ half = 12500000) ∨
          (s.stop.lockCause = .duplicateStation ∧ half = 3125000) → s.stop.blinkClk < half →
        ∃ t, exec .faultLampBlink s = .next t ∧ t.stop.blinkOn = !s.stop.blinkOn ∧
          t.stop.blinkClk = 0 ∧ t.faultOut = !s.faultOut ∧
          (elapse (half - s.stop.blinkClk) s).changesOnly [] t) ∧
      (s.stop.lockCause = .image → exec .faultLampBlink s = .next s ∧ s.faultOut = true)) ∧
    (s.seq.state ≠ .locked → ∃ t, exec .faultLampBlink s = .next t ∧ s.changesOnly [.link] t ∧
      (s.faultOut = true ↔
        s.seq.state = .start ∨ s.seq.state = .stopping ∨ s.seq.state = .stopped))

/-! ### The line and the transmit slots -/

/-- A start bit on an IDLE line makes it BUSY and begins a frame, on a BUSY line it is part of it; a discarded frame
has no further effect, and no characters are taken until the next IDLE (R24, R36, R37). An IDLE before the frame is
complete is the line's becoming IDLE; while the own transmitter drives a frame neither happens (assumption logs 5
and 14). A frame is taken only while one is in progress (the model's choice, assumption log 14). -/
def Obligations.StartBitsAndDiscards : Prop :=
  ∀ s : State, s.quiet = true →
    (s.link.line = .idle →
      exec .lineBusy s = .next (s.withLink { s.link with line := .busy, assembling := true })) ∧
    (s.link.line = .busy → exec .lineBusy s = .next s) ∧
    (∀ why, why ≠ .earlyIdle → s.link.assembling = true →
      exec (.frameDiscard why) s = .next s.frameOver) ∧
    (s.link.assembling = true → s.link.attempting = none →
      exec (.frameDiscard .earlyIdle) s = exec .lineIdle s ∧
      ∃ t, exec (.frameDiscard .earlyIdle) s = .next t ∧ s.changesOnly [.link] t ∧
        (s.link.nextPending = none ∨ s.seq.state.operating = false →
          t = s.withLink { s.link with line := .idle, assembling := false })) ∧
    (s.link.attempting.isSome = true → s.link.line = .busy →
      exec (.frameDiscard .earlyIdle) s = .next s ∧ exec .lineIdle s = .next s) ∧
    (∀ why, s.link.assembling = false → s.link.line = .busy → exec (.frameDiscard why) s = .next s)

/-- The line becomes IDLE (R24, R28, R34, R35, R36, R45): an incomplete frame is dropped; in the operating
states an attempt begins with the PENDING slot of the lowest header, STOP before MARK before REPORT, completed
with its length and CRC, a MARK with the count plus 1; in START and LOCKED, and with no slot PENDING, none
begins. That the line is BUSY from the start of the attempt, whatever its own start bit reads back as, is the model's
choice (assumption log 31). -/
def Obligations.IdleLineBeginsTheLowestHeader : Prop :=
  ∀ s : State, s.quiet = true → s.link.attempting = none →
    let idle : LinkPort := { s.link with line := .idle, assembling := false }
    let attempt (l : LinkPort) (kind : BitVec 4) (body : List Byte) : State := s.withLink { l with
      txFrame := buildFrame kind s.ownNibble body, line := .busy, assembling := true }
    (s.seq.state.operating = false ∨
        (s.link.stopSlot.st = .empty ∧ s.link.markSlot.st = .empty ∧ s.link.reportSlot.st = .empty) →
      exec .lineIdle s = .next (s.withLink idle)) ∧
    (s.seq.state.operating = true → s.link.stopSlot.st = .pending →
      exec .lineIdle s = .next
        (attempt { s.link with stopSlot := { s.link.stopSlot with st := .inAttempt } } kindStop
          s.link.stopSlot.body)) ∧
    (s.seq.state.operating = true → s.link.stopSlot.st = .empty → s.link.markSlot.st = .pending →
      exec .lineIdle s = .next
        (attempt { s.link with markSlot := { s.link.markSlot with st := .inAttempt } } kindMark
          (markBody (s.clock.count + 1#16)))) ∧
    (s.seq.state.operating = true → s.link.stopSlot.st = .empty → s.link.markSlot.st = .empty →
      s.link.reportSlot.st = .pending →
      exec .lineIdle s = .next
        (attempt { s.link with reportSlot := { s.link.reportSlot with st := .inAttempt } } kindReport
          s.link.reportSlot.body))

/-- The ends of an attempt that leave its frame to be sent again or sent (R29, R30, R32, R33, R34, Table 2-3): on
an arbitration loss the slot is PENDING with its count unchanged; on a first or second transmit error PENDING
with the count up by 1; sent, it is EMPTY with the count 0, or PENDING with the renewed content; the renewed
content replaces the old; a withdrawn MARK leaves the slot EMPTY. An own STOP or REPORT has no other effect. That
the line is BUSY at a transmit error of the own start bit too is the model's choice (assumption log 31). -/
def Obligations.AttemptEndsAsTable23 : Prop :=
  ∀ (k : SlotKind) (s : State), s.quiet = true → s.link.attempting = some k → s.link.line = .busy →
    let x := s.link.slot k
    let ended (y : Slot) : LinkPort := { s.link.setSlot k y with txFrame := [] }
    exec .arbitrationLoss s = .next (s.withLink (ended
      (if x.withdrawn then {}
      else { st := .pending, body := x.renewed.getD x.body, attempts := x.attempts }))) ∧
    (x.withdrawn = false → x.attempts < 2 →
      exec .transmitError s = .next (s.withLink (ended
        { st := .pending, body := x.renewed.getD x.body, attempts := x.attempts + 1 }))) ∧
    (x.withdrawn = true → k = .mark → exec .transmitError s = .next (s.withLink (ended {}))) ∧
    (∀ body : List Byte, k ≠ .mark → x.withdrawn = false → body.length ≤ 24 →
      s.link.txFrame = buildFrame k.kind s.ownNibble body →
      ¬ (k = .stop ∧ x.renewed = none ∧ s.stop.lockPending = true) →
      exec .frameSent s = .next (s.withLink { ended
        (if x.renewed.isSome then { st := .pending, body := x.renewed.getD [] } else {}) with
        line := .busy, assembling := false }))

/-- The third transmit error of a slot (R31, R151): the slot is EMPTY with its count 0 and its renewed content gone,
and LINK_MUTE is taken; from an empty record that is a controlled stop whose STOP frame is requested, also where the
mute slot is the STOP slot itself. That the slot is EMPTY before the cause is taken is the model's choice (assumption
log 16). -/
def Obligations.ThirdErrorMutesTheSlot : Prop :=
  ∀ (k : SlotKind) (s : State), s.quiet = true → s.link.attempting = some k → s.link.line = .busy →
    (s.link.slot k).withdrawn = false → (s.link.slot k).attempts = 2 → s.stop.lockPending = false →
    let u := s.withLink { s.link.setSlot k {} with txFrame := [] }
    exec .transmitError s = .next (takeCause .linkMute s.own u) ∧
      (s.seq.state.operating = true → s.seq.state ≠ .stopping → s.seq.state ≠ .stopped →
        s.recordEmpty → ∃ t, exec .transmitError s = .next t ∧
          t.stop.first = some (.linkMute, s.own) ∧ t.stop.category = .controlled ∧
          t.seq.state = (if s.seq.state = .ready then .stopped else .stopping) ∧
          t.link = u.link.setSlot .stop (u.link.stopSlot.request (stopBody s.ownGroup 15 s.own)) ∧
          u.changesOnly [.link, .seq, .stop] t)

/-- DUPLICATE_STATION (R38, R152, R157): an accepted frame of any kind under the own number, in the operating
states, is delivered to no owner; the station stops at once, requests an all-group STOP with cause 16 and sets lock
pending; when that STOP is sent, or fails for the third time, the station enters LOCKED with its slots empty. A
further duplicate while lock is pending is recorded and requests no frame. That LINK_MUTE of the third failure is in
the record that freezes is the model's choice (assumption log 16). -/
def Obligations.DuplicateStopsAllAndLocks : Prop :=
  (∀ (kind sender : BitVec 4) (body : List Byte) (s : State), s.quiet = true →
    s.link.assembling = true → body.length ≤ 24 → s.seq.state.operating = true →
    sender.toNat = s.own → s.stop.lockPending = false → s.recordFits → s.outputsFit →
    ∃ t, exec (frameCommand kind sender body) s = .next t ∧
      t.holdsCause .duplicateStation ∧ t.seq = { s.seq with state := .stopped } ∧
      t.stop.category = .immediate ∧ t.stop.lockPending = true ∧
      t.stop.lockCause = .duplicateStation ∧ t.loop.drive = false ∧ t.loop.brake = .set ∧
      t.link = { s.link.setSlot .stop (s.link.stopSlot.request (stopBody 0 16 s.own)) with
        line := .busy, assembling := false } ∧
      (if kind = kindMark then elapseUs 0 s else s).changesOnly [.link, .seq, .loop, .creep, .stop] t) ∧
  (∀ (body : List Byte) (s : State), s.quiet = true → s.link.attempting = some .stop →
    s.link.stopSlot.renewed = none → s.link.stopSlot.withdrawn = false → s.stop.lockPending = true →
    s.link.txFrame = buildFrame kindStop s.ownNibble body → body.length ≤ 24 →
    ∃ t, exec .frameSent s = .next t ∧ t.seq = { s.seq with state := .locked } ∧
      t.stop.first = s.stop.first ∧ t.stop.later = s.stop.later ∧ t.stop.lockPending = false ∧
      t.stop.assist = false ∧ t.loop.drive = false ∧ t.loop.brake = .set ∧ t.loop.duty = 512 ∧
      t.loop.supervision = .idle ∧ t.link.stopSlot = {} ∧ t.link.markSlot = {} ∧
      t.link.reportSlot = {} ∧ t.clock.markRequested = false ∧
      s.changesOnly [.link, .clock, .seq, .loop, .stop] t) ∧
  (∀ s : State, s.quiet = true → s.link.attempting = some .stop → s.link.line = .busy →
    s.link.stopSlot.withdrawn = false → s.link.stopSlot.attempts = 2 → s.stop.lockPending = true →
    s.recordFits → s.outputsFit →
    ∃ t, exec .transmitError s = .next t ∧ t.seq = { s.seq with state := .locked } ∧
      t.stop.first = s.stop.first ∧ t.stop.later = addLater s.stop.later .linkMute ∧
      t.stop.lockPending = false ∧ t.stop.lockCause = s.stop.lockCause ∧ t.stop.assist = false ∧
      t.loop.drive = false ∧ t.loop.brake = .set ∧ t.loop.duty = 512 ∧ t.loop.supervision = .idle ∧
      t.link.stopSlot = {} ∧ t.link.markSlot = {} ∧ t.link.reportSlot = {} ∧
      t.clock.markRequested = false ∧ s.changesOnly [.link, .clock, .seq, .loop, .stop] t) ∧
  (∀ (kind sender : BitVec 4) (body : List Byte) (s : State), s.quiet = true →
    s.link.assembling = true → body.length ≤ 24 → sender.toNat = s.own →
    s.stop.lockPending = true → s.recordFits →
    let u := if kind = kindMark then elapseUs 0 s else s
    exec (frameCommand kind sender body) s =
      .next (u.frameOver.withStop { u.stop with later := addLater s.stop.later .duplicateStation }))

/-- The roster and role filter and the delivery by station state (R39, R40, Tables 2-4 and 2-5): a frame that is
ignored or withheld has no effect beyond its end; an unassigned kind always is, save under the own number. A frame is
taken only while one is in progress (the model's choice, assumption log 14). -/
def Obligations.FilteredFramesHaveNoEffect : Prop :=
  ∀ (kind sender : BitVec 4) (body : List Byte) (s : State), s.quiet = true →
    s.link.assembling = true → body.length ≤ 24 →
    ¬ (s.seq.state.operating = true ∧ sender.toNat = s.own) →
    (kind.toNat ∉ [0, 1, 2, 3, 4, 8] →
      exec (.unassignedKindFrame kind sender body) s = .next s.frameOver) ∧
    (s.roleOf sender.toNat = .noRole ∨
        (kind = kindStop ∧ body.length ≠ 3) ∨
        (kind ∈ [kindMark, kindGo, kindClear, kindRate] ∧ body.length ≠ 2) ∨
        (kind = kindReport ∧ body.length ≠ 22) ∨
        (kind ∈ [kindGo, kindClear, kindRate] ∧ s.roleOf sender.toNat ≠ .console) ∨
        (kind = kindReport ∧ s.roleOf sender.toNat ≠ .winch) ∨
        s.seq.state = .locked ∨
        (s.seq.state = .start ∧ s.loader.progress ≠ .listen) ∨
        (s.seq.state = .start ∧ kind ≠ kindMark ∧ kind ≠ kindReport) →
      exec (frameCommand kind sender body) s =
        .next (if kind = kindMark then elapseUs 0 s else s).frameOver)

/-! ### The owners of the frames -/

/-- A REPORT (R58, R59, R60, R66, R69): in step it replaces the report part of the sender's row, with age 0, and
PEER_STALE is recomputed; a member that shows STOPPING or STOPPED stops a station in PRIMED, FLYING or PARKING
with MEMBER_STOPPED and no STOP frame; out of step, or under the own number in the listen window, it changes
nothing. That PEER_STALE is recomputed in the listen window is the model's choice among sections of the spec that
disagree (assumption log 27). -/
def Obligations.ReportIsStoredInStep : Prop :=
  ∀ (sender : BitVec 4) (body : List Byte) (s : State), s.quiet = true → s.link.assembling = true →
    body.length = 22 → s.roleOf sender.toNat = .winch →
    (s.seq.state.operating = true ∨ (s.seq.state = .start ∧ s.loader.progress = .listen)) →
    let p := Report.ofBytes body
    let inStep := p.cycleCount = s.clock.count ∨ p.cycleCount = s.clock.count - 1#16
    let stopped := s.seq.state.inFlight = true ∧ (p.stateCode = 5#8 ∨ p.stateCode = 6#8) ∧
      ∃ r ∈ s.peers.rows, r.station = sender.toNat ∧ r.group = s.ownGroup
    (sender.toNat ≠ s.own → inStep →
      ∃ t, exec (.reportFrame sender body) s = .next t ∧
        t.peers = { s.peers with rows := s.peers.rows.map fun r =>
          if r.station = sender.toNat then { r with age := 0, report := some p } else r } ∧
        (t.gov.holds.peerStale = true ↔ ∃ r ∈ t.peers.rows, r.station ≠ s.own ∧ r.group = s.ownGroup ∧
          r.report.isSome = true ∧ 3 ≤ r.age ∧ r.age < s.params.lostLimit) ∧
        t.gov = { s.gov with holds := { s.gov.holds with peerStale := t.gov.holds.peerStale } } ∧
        t.link = s.frameOver.link ∧
        (¬ stopped → s.changesOnly [.link, .peers, .gov] t) ∧
        (stopped → s.recordEmpty →
          t.seq = { s.seq with state := .stopping } ∧
          t.stop = { s.stop with
            first := some (.memberStopped, sender.toNat), category := .controlled
            phase := .ramping, stopTimer := 0 } ∧
          s.changesOnly [.link, .peers, .gov, .seq, .stop] t)) ∧
    (sender.toNat ≠ s.own → ¬ inStep → exec (.reportFrame sender body) s = .next s.frameOver) ∧
    (sender.toNat = s.own → s.seq.state = .start →
      exec (.reportFrame sender body) s = .next s.frameOver)

/-- A GO that passes the six checks is accepted (R5, R6, R11, R13, R100, R111, R113): the refusal code NONE,
COMPLETE and SAT and LAG clear, the cue current at progress 0, PRIMED with the prime timer at 0, the drive on at
L0, RELEASE commanded with its supervision on it, the Creep Watch disarmed; the enable record, its age and the
holds stay. -/
def Obligations.GoThatPassesPrimes : Prop :=
  ∀ (sender : BitVec 4) (g c : Byte) (e : CueEntry) (s : State), s.quiet = true →
    s.link.assembling = true → s.roleOf sender.toNat = .console → sender.toNat ≠ s.own →
    s.seq.state = .ready → s.outputsFit → g.toNat = s.ownGroup →
    s.path.entry c.toNat = some e → s.startNear e → s.membersShowReady → s.membersShareTiming →
    (¬ ∃ r ∈ s.peers.rows, s.rowConflicts [2, 3, 4] c.toNat r) →
    ∃ t, exec (.goFrame sender [g, c]) s = .next t ∧
      t.seq = { state := .primed, refusal := .noRefusal, primeTimer := 0, complete := false } ∧
      t.gov = { s.gov with cue := c.toNat, q := 0, k := 0, dPrev := 0, achieved := 0, lag := false } ∧
      t.loop = { s.loop with
        drive := true, target := e.l0, prevTarget := e.l0, brake := .release, sat := false
        supervision := if s.loop.brakeSample = .released then .matched else .waiting
        supTimer := 0 } ∧
      t.creep = { s.creep with armed := false } ∧
      t.dren = true ∧ t.brkrel = true ∧ t.faultOut = false ∧
      t.link = s.frameOver.link ∧ s.changesOnly [.link, .seq, .gov, .loop, .creep] t

/-- A GO of the own group that fails a check is refused with the code of the first check that fails, and the
refusal code alone changes (R6 to R10, Table 1-5); a GO of another group, group 0 included, is ignored (R5). -/
def Obligations.GoIsRefusedByTheFirstCheck : Prop :=
  ∀ (sender : BitVec 4) (g c : Byte) (s : State), s.quiet = true → s.link.assembling = true →
    s.roleOf sender.toNat = .console → sender.toNat ≠ s.own → s.seq.state.operating = true →
    let refused (code : RefusalCode) : Prop :=
      exec (.goFrame sender [g, c]) s = .next (s.frameOver.withSeq { s.seq with refusal := code })
    (g.toNat ≠ s.ownGroup → exec (.goFrame sender [g, c]) s = .next s.frameOver) ∧
    (g.toNat = s.ownGroup →
      (s.seq.state ≠ .ready → refused .busy) ∧
      (s.seq.state = .ready →
        (s.path.entry c.toNat = none → refused .noCue) ∧
        (∀ e, s.path.entry c.toNat = some e →
          (¬ s.startNear e → refused .startPosition) ∧
          (s.startNear e →
            (¬ s.membersShowReady → refused .groupNotReady) ∧
            (s.membersShowReady →
              (¬ s.membersShareTiming → refused .fingerprint) ∧
              (s.membersShareTiming → (∃ r ∈ s.peers.rows, s.rowConflicts [2, 3, 4] c.toNat r) →
                refused .airspace))))))

/-- A RATE for all groups or the own one replaces the enable record, sets its age to 0 and so clears ENABLE, in
every operating state; a RATE for another group changes nothing (R86, R87). -/
def Obligations.RateReplacesTheEnableRecord : Prop :=
  ∀ (sender : BitVec 4) (g r : Byte) (s : State), s.quiet = true → s.link.assembling = true →
    s.roleOf sender.toNat = .console → sender.toNat ≠ s.own → s.seq.state.operating = true →
    1 ≤ s.params.enableLimit →
    (g = 0#8 ∨ g.toNat = s.ownGroup →
      exec (.rateFrame sender [g, r]) s = .next (s.frameOver.withGov { s.gov with
        rate := r.toNat, enableAge := 0, holds := { s.gov.holds with enable := false } })) ∧
    (g ≠ 0#8 → g.toNat ≠ s.ownGroup → exec (.rateFrame sender [g, r]) s = .next s.frameOver)

/-- A STOP frame for all groups or the own one (R148, R140, R141, R145, R146): CONSOLE_STOP from a console,
GROUP_STOP from a winch, with the sender as source. It stops a READY station on its set brake, and begins a
controlled stop from PRIMED, FLYING and PARKING with the brake command as it stands; in STOPPING and STOPPED it
joins the later-fault set; it is never sent on. For another group it changes nothing. -/
def Obligations.StopFrameIsTakenByItsSender : Prop :=
  ∀ (sender : BitVec 4) (g code station : Byte) (s : State), s.quiet = true →
    s.link.assembling = true → s.roleOf sender.toNat ≠ .noRole → sender.toNat ≠ s.own →
    s.seq.state.operating = true →
    let cause : FaultCode := if s.roleOf sender.toNat = .console then .consoleStop else .groupStop
    let after := exec (.stopFrame sender [g, code, station]) s
    (g ≠ 0#8 → g.toNat ≠ s.ownGroup → after = .next s.frameOver) ∧
    (g = 0#8 ∨ g.toNat = s.ownGroup →
      (s.seq.state = .ready → s.recordEmpty →
        after = .next ((s.frameOver.withSeq { s.seq with state := .stopped }).withStop { s.stop with
          first := some (cause, sender.toNat), category := .controlled })) ∧
      (s.seq.state.inFlight = true → s.recordEmpty →
        after = .next ((s.frameOver.withSeq { s.seq with state := .stopping }).withStop { s.stop with
          first := some (cause, sender.toNat), category := .controlled
          phase := .ramping, stopTimer := 0 })) ∧
      (s.seq.state = .stopping ∨ s.seq.state = .stopped → s.stop.first.isSome = true →
        after = .next (s.frameOver.withStop { s.stop with later := addLater s.stop.later cause })))

/-- A CLEAR (R153, R154): ignored for another group or station, outside STOPPED and while a lock is pending;
blocked with CLEAR_BLOCKED, and nothing else changed, by an active input at the last strobe, a failed last read or
a brake not shown set; otherwise accepted in one event: the record empty, READY with the refusal NONE, SAT and
ASSIST clear, the drive off, the supervision MATCHED, the Creep Watch armed at the measured length. -/
def Obligations.ClearReturnsToReady : Prop :=
  ∀ (sender : BitVec 4) (g n : Byte) (s : State), s.quiet = true → s.link.assembling = true →
    s.roleOf sender.toNat = .console → sender.toNat ≠ s.own → s.seq.state.operating = true →
    let taken := (g = 0#8 ∨ g.toNat = s.ownGroup) ∧ (n = 255#8 ∨ n.toNat = s.own)
    let blocked := s.stop.lstopSample = true ∨ s.stop.dipSample = true ∨ s.stop.dfltSample = true ∨
      s.len.lastResult = .failed ∨ s.loop.brakeSample ≠ .set
    (¬ taken ∨ s.seq.state ≠ .stopped ∨ s.stop.lockPending = true →
      exec (.clearFrame sender [g, n]) s = .next s.frameOver) ∧
    (taken → s.seq.state = .stopped → s.stop.lockPending = false → blocked →
      exec (.clearFrame sender [g, n]) s =
        .next (s.frameOver.withSeq { s.seq with refusal := .clearBlocked })) ∧
    (taken → s.seq.state = .stopped → s.stop.lockPending = false → ¬ blocked → s.outputsFit →
      ∃ t, exec (.clearFrame sender [g, n]) s = .next t ∧
        t.seq = { s.seq with state := .ready, refusal := .noRefusal } ∧
        t.stop = { s.stop with
          first := none, later := 0#24, category := .noStop, assist := false
          stopTimer := 0, phase := .ramping } ∧
        t.loop = { s.loop with
          drive := false, duty := 512, speed := 0, sat := false, supervision := .matched, supTimer := 0 } ∧
        t.creep = { reference := s.len.measured, armed := true } ∧ t.faultOut = false ∧
        t.link = s.frameOver.link ∧ s.changesOnly [.link, .seq, .stop, .loop, .creep] t)

/-! ### The length sample -/

/-- The length sample judges and converts the word (R121 to R124) at every order of the blocks: a good word gives the
length and clears the failures; a word with odd parity or the error bit, and one out of range, keep the length, count
a failure and leave FAILED; ENCODER is raised in the operating states at an out-of-range read and at a second failed
read. START and LOCKED make no more of it (R125). The own REPORT, composed when the blocks have finished, shows what
they left and is stored in the own row and requested (R62, R63). Where a check comes after the composition, the REPORT
does not show what that check does: it is the REPORT of the sample `calm` in which that check finds no OVERLOAD and no
BRAKE_SLIP, with the holds from before the Load Monitor's. The places of the Load Monitor and the Creep Watch are
operands (assumption log 12). The count of a word that is not failed is kept (assumption log 26). -/
def Obligations.LengthSampleJudgesTheWord : Prop :=
  ∀ (w : EncoderWord) (load creep : CheckPoint) (s : State), s.quiet = true → s.len.reading = true →
    let failed := encoderOnes w % 2 = 1 ∨ w.getLsbD 1 = true
    let magnitude : Int := (((w.toNat / 4) * s.params.kScale + 32768) / 65536 : Nat)
    let l : Int := if s.params.dirNegative then (s.params.lZero : Int) - magnitude
      else (s.params.lZero : Int) + magnitude
    let kept : LengthReader := { s.len with
      lastCount := if failed then s.len.lastCount else w.toNat / 4
      failures := min 2 (s.len.failures + 1)
      lastResult := .failed, reading := false }
    let raised (t : State) : Prop := t.holdsCause .encoder ∧
      (s.stop.first = none → t.stop.first = some (.encoder, s.own))
    ∃ t, exec (.lengthSample w load creep) s = .next t ∧
      (¬ failed → 0 ≤ l → l ≤ 999999 →
        t.len = {
          measured := l.toNat, lastCount := w.toNat / 4, failures := 0, lastResult := .good
          reading := false }) ∧
      (failed → t.len = kept ∧
        (s.seq.state.operating = true → 1 ≤ s.len.failures → raised t) ∧
        (s.len.failures = 0 → t.holdsCause .encoder → s.holdsCause .encoder)) ∧
      (¬ failed → (l < 0 ∨ 999999 < l) → t.len = kept ∧ (s.seq.state.operating = true → raised t)) ∧
      (s.seq.state.operating = false → s.changesOnly [.len] t) ∧
      (s.seq.state.operating = true →
        let calm : State := { s with
          params := { s.params with
            tMax := if load = .afterReport then max s.params.tMax s.tens.latched else s.params.tMax }
          creep := { s.creep with armed := s.creep.armed && decide (creep ≠ .afterReport) } }
        ∃ u, exec (.lengthSample w load creep) calm = .next u ∧
          let holds := if load = .afterReport then s.gov.holds else u.gov.holds
          let r : Report := {
            cycleCount := s.clock.count
            stateCode := BitVec.ofNat 8 u.seq.state.code
            cue := BitVec.ofNat 8 u.gov.cue
            achieved := BitVec.ofNat 24 u.gov.achieved
            length := BitVec.ofNat 24 t.len.measured
            tension := BitVec.ofNat 16 s.tens.latched
            holds := holds.byte
            flags := flagsByte u.gov.lag u.loop.sat s.clock.unsync u.seq.complete u.stop.assist
            firstFault := BitVec.ofNat 8 (match u.stop.first with | none => 0 | some f => f.1.code)
            faultSource := BitVec.ofNat 8 (match u.stop.first with | none => 255 | some f => f.2)
            laterFaults := u.stop.later
            refusal := BitVec.ofNat 8 u.seq.refusal.code
            fingerprint := s.path.fingerprint }
          t.peers = { s.peers with rows := s.peers.rows.map fun x =>
            if x.station = s.own then { x with age := 0, report := some r } else x } ∧
          (s.link.line = .busy → t.link.reportSlot = s.link.reportSlot.request r.toBytes) ∧
          (load ≠ .afterReport → creep ≠ .afterReport → u = t)) ∧
      s.changesOnly [.link, .peers, .seq, .gov, .loop, .len, .load, .creep, .stop] t

/-- A length sample in READY, at every order of the blocks (R125, R129, R130, R131, R134, R118): a length more than
the creep limit from the armed reference raises BRAKE_SLIP, and the drive holds the line at the reference; a tension
above T_max raises OVERLOAD, and the station stops on its brake; otherwise nothing but the Load Monitor's reasons,
its counter and the REPORT changes. The length is the one the read leaves, also after a single failed read. The places
of the Load Monitor and the Creep Watch are operands (assumption log 12). -/
def Obligations.ReadySampleWatchesLoadAndCreep : Prop :=
  ∀ (w : EncoderWord) (load creep : CheckPoint) (l : Nat) (s : State), s.quiet = true →
    s.len.reading = true → s.seq.state = .ready → s.recordEmpty → s.outputsFit → s.leavesLength w l →
    let slips := s.creep.armed = true ∧
      s.params.creepLimit < ((l : Int) - (s.creep.reference : Int)).natAbs
    let overloaded := s.params.tMax < s.tens.latched
    ∃ t, exec (.lengthSample w load creep) s = .next t ∧
      t.gov = { s.gov with holds := { s.gov.holds with slack := false, loadBand := false } } ∧
      t.load = { slackCounter := 0, slackDue := false } ∧ t.creep = s.creep ∧
      (¬ slips → ¬ overloaded → t.seq = s.seq ∧ t.stop = s.stop ∧ t.loop = s.loop) ∧
      (slips → ¬ overloaded →
        t.seq = { s.seq with state := .stopped } ∧
        t.stop = { s.stop with
          first := some (.brakeSlip, s.own), category := .assist, assist := true } ∧
        t.loop.drive = true ∧ t.loop.brake = .set ∧ s.heldByDrive t) ∧
      (overloaded → ¬ slips →
        t.seq = { s.seq with state := .stopped } ∧
        t.stop = { s.stop with first := some (.overload, s.own), category := .controlled } ∧
        t.loop = s.loop)

/-- The Load Monitor's check, in the station state in which it finds the station (R129 to R131): in PRIMED and FLYING
SLACK while the own tension or that of a member with a report part is below T_slack, LOAD_BAND while the group load is
outside its band, and in the other operating states neither; in FLYING the counter counts the slack samples up to the
slack limit, where SLACK_TIMEOUT is due; above T_max OVERLOAD is taken with the own station as source, save in STOPPED.
The note of a counter at its limit, `slackDue`, is the model's own field (assumption log 4); that OVERLOAD comes after
the reasons and the counter is its choice (assumption log 13). -/
def Obligations.LoadMonitorHoldsTheFlight : Prop :=
  ∀ s : State, s.seq.state.operating = true →
    ∃ u, s.loadWritten s.seq.state u ∧ u.gov = { s.gov with holds := u.gov.holds } ∧
      s.changesOnly [.gov, .load] u ∧
      (s.seq.state = .stopped ∨ s.tens.latched ≤ s.params.tMax → loadCheck s = u) ∧
      (s.seq.state ≠ .stopped → s.params.tMax < s.tens.latched →
        loadCheck s = takeCause .overload s.own u)

/-- A length sample in PRIMED (R14, R16, R20, R96, R107): a conflicting group that flies, or is primed with a lower
number, makes the station abandon the prime with refusal AIRSPACE; otherwise, with the brake released and every member
FRESH and PRIMED or FLYING on the cue, the station enters FLYING and makes its first computation with no feed-forward;
otherwise it stays, holding the line at its target. The length is the one the read leaves, also after a single failed
read. The Load Monitor makes its checks at any of its places (R89, R129 to R132): what it writes before the computation
the computation sees (`seen`), and OVERLOAD above T_max is raised in the state in which it finds the station, before
the tests where it comes before them. The places of the Load Monitor and the Creep Watch are operands (assumption log
12), the latter here before the tests. The hold reasons and the counter are written before OVERLOAD is raised
(assumption log 13), and after the REPORT a counter at its limit is noted for its own row (`slackDue`, assumption log
4). Where a counter at its limit stops the new flight inside the sample, the statement of what the Load Monitor stops
in FLYING says how. -/
def Obligations.PrimedSampleMakesItsTests : Prop :=
  ∀ (w : EncoderWord) (load : CheckPoint) (l : Nat) (s : State), s.quiet = true → s.len.reading = true →
    s.seq.state = .primed → s.recordEmpty → s.outputsFit → s.leavesLength w l →
    let read := s.withLen { s.len with measured := l }
    let overloaded := s.params.tMax < s.tens.latched
    let abandons := ∃ r ∈ s.peers.rows, s.rowConflicts [3] s.gov.cue r ∨
      (s.rowConflicts [2] s.gov.cue r ∧ r.group < s.ownGroup)
    let flies := s.loop.brakeSample = .released ∧ ∀ r ∈ s.peers.rows, r.station ≠ s.own →
      r.group = s.ownGroup → ∃ p, r.report = some p ∧ r.age ≤ 2 ∧ p.cue.toNat = s.gov.cue ∧
        (p.stateCode = 2#8 ∨ p.stateCode = 3#8)
    let seen := if load = .beforeSequencer ∨ load = .beforeComputation then loadCheck s else s
    let q := seen.newProgress false
    let target := s.targetAt (seen.nextSegment false) q
    let error := ((target : Int) - (l : Int)).natAbs
    let achieved := if error ≤ s.params.followTol then q else s.gov.achieved
    ∃ t, exec (.lengthSample w load .beforeSequencer) s = .next t ∧
      (abandons → load = .afterReport ∨ ¬ overloaded →
        let left : Sequencer := { s.seq with
          refusal := .airspace
          state := if s.loop.brakeSample = .set then .ready else .parking }
        s.endsIn (if load = .beforeSequencer then .primed else left.state) left t ∧
        t.gov.q = s.gov.q ∧ t.gov.achieved = s.gov.achieved ∧ t.gov.dPrev = 0 ∧
        t.loop.brake = .set ∧ t.loop.target = s.loop.target ∧
        (t.loop.drive = true ↔ s.loop.brakeSample = .released)) ∧
      (¬ abandons → ¬ flies →
        (load ≠ .beforeSequencer ∧ load ≠ .beforeComputation) ∨ ¬ overloaded →
        s.endsIn .primed s.seq t ∧ t.loop = (speedCommand s.loop.target false read).loop ∧
        t.gov.q = s.gov.q ∧ t.gov.k = s.gov.k ∧ t.gov.dPrev = s.gov.dPrev ∧
        t.gov.achieved = s.gov.achieved ∧ t.gov.lag = s.gov.lag) ∧
      (¬ abandons → flies → load = .afterReport ∨ (¬ overloaded ∧ ¬ s.slackEnds) →
        let found (left : StationState) : StationState :=
          if load = .beforeSequencer then .primed
          else if load = .beforeComputation ∨ load = .beforeCompletion then .flying else left
        t.gov.q = q ∧ t.gov.k = seen.nextSegment false ∧ t.gov.achieved = achieved ∧
        t.loop.target = target ∧
        (error ≤ s.params.tripTol → achieved ≠ s.cueEnd →
          s.endsIn (found .flying) { s.seq with state := .flying } t ∧
          t.loop = (speedCommand target true read).loop ∧ t.gov.dPrev = q - s.gov.q) ∧
        (error ≤ s.params.tripTol → achieved = s.cueEnd →
          s.endsIn (found .parking) { s.seq with complete := true, state := .parking } t ∧ t.gov.dPrev = 0) ∧
        (s.params.tripTol < error →
          t.seq = { s.seq with state := .stopped } ∧ t.stop.first = some (.followTrip, s.own) ∧
          t.stop.later = 0#24 ∧ t.stop.category = .immediate)) ∧
      (overloaded → (load ≠ .beforeSequencer → ¬ abandons → flies → error ≤ s.params.tripTol) →
        (load = .beforeComputation → ¬ abandons → ¬ flies) →
        t.stop.first = some (.overload, s.own) ∧ (t.seq.state = .stopping ∨ t.seq.state = .stopped) ∧
        (load = .beforeSequencer → t.seq.refusal = s.seq.refusal) ∧
        (load ≠ .beforeSequencer → abandons → t.seq.refusal = .airspace))

/-- A length sample in FLYING (R81, R82, R89, R94, R95, R107, R19, R20) in which the Load Monitor stops nothing before
the REPORT: progress, segment and applied advance move, the line is driven to the target of the new progress; achieved
progress follows while the error is within the follow tolerance, LAG shows it otherwise; an error above the trip
tolerance raises FOLLOW_TRIP, achieved progress at the cue end completes the cue and parks. The length is the one the
read leaves, also after a single failed read. The Load Monitor makes its checks at any of its places (R89, R129 to
R132), and what it writes before the computation the computation sees (`seen`). What it stops at a place before the
REPORT is the statement of what the Load Monitor stops in FLYING; after the REPORT OVERLOAD stops the flight that is
left. The places of the Load Monitor and the Creep Watch are operands (assumption log 12), the latter here before the
tests. The hold reasons and the counter are written before OVERLOAD is raised (assumption log 13), and after the REPORT
a counter at its limit is noted for its own row, with the record and the state unchanged (`slackDue`, assumption log
4). -/
def Obligations.FlyingSampleFliesTheCue : Prop :=
  ∀ (w : EncoderWord) (load : CheckPoint) (l : Nat) (s : State), s.quiet = true → s.len.reading = true →
    s.seq.state = .flying → s.recordEmpty → s.outputsFit → s.leavesLength w l →
    load = .afterReport ∨ (s.tens.latched ≤ s.params.tMax ∧ ¬ s.slackEnds) →
    let read := s.withLen { s.len with measured := l }
    let early := load = .beforeSequencer ∨ load = .beforeComputation
    let seen := if early then loadCheck s else s
    let q := seen.newProgress false
    let target := s.targetAt (seen.nextSegment false) q
    let error := ((target : Int) - (l : Int)).natAbs
    let achieved := if error ≤ s.params.followTol then q else s.gov.achieved
    let parked : StationState := if s.loop.brakeSample = .set then .ready else .parking
    ∃ t, exec (.lengthSample w load .beforeSequencer) s = .next t ∧
      t.gov.q = q ∧ t.gov.k = seen.nextSegment false ∧ t.gov.cue = s.gov.cue ∧
      t.gov.achieved = achieved ∧ (t.gov.lag = true ↔ s.params.followTol < error) ∧
      t.loop.target = target ∧ t.loop.err = (target : Int) - (l : Int) ∧
      (error ≤ s.params.tripTol → achieved ≠ s.cueEnd →
        s.endsIn .flying s.seq t ∧ t.creep = s.creep ∧ t.gov.dPrev = q - s.gov.q ∧
        t.loop = (speedCommand target false read).loop) ∧
      (error ≤ s.params.tripTol → achieved = s.cueEnd →
        s.endsIn (if early ∨ load = .beforeCompletion then .flying else parked)
          { s.seq with complete := true, state := parked } t ∧
        t.gov.dPrev = 0 ∧ t.loop.brake = .set ∧
        (t.loop.drive = true ↔ s.loop.brakeSample = .released)) ∧
      (s.params.tripTol < error →
        s.loadWritten (if early then .flying else .stopped) t ∧
        t.seq = { s.seq with state := .stopped } ∧ t.stop.first = some (.followTrip, s.own) ∧
        t.stop.later = 0#24 ∧ t.stop.category = .immediate ∧ t.gov.dPrev = q - s.gov.q ∧
        t.loop.drive = false ∧ t.loop.brake = .set ∧ t.loop.duty = 512)

/-- A length sample in a controlled STOPPING (R98, R142, R143): the path stop's computation; in RAMPING, with no advance
and the error within the follow tolerance, the stop settles with SET commanded, and is complete at once where the brake
stands confirmed; otherwise it goes on; an error above the trip tolerance makes it immediate. The length is the one the
read leaves, also after a single failed read. The Load Monitor, at any of its places, clears its hold reasons and its
counter, and an OVERLOAD that finds the station in STOPPING joins the later-fault set (R89, R129 to R132, R145). The
places of the Load Monitor and the Creep Watch are operands (assumption log 12), the latter here before the
computation. -/
def Obligations.StoppingSampleSettlesTheStop : Prop :=
  ∀ (w : EncoderWord) (load : CheckPoint) (l : Nat) (s : State), s.quiet = true → s.len.reading = true →
    s.seq.state = .stopping → s.recordFits → s.outputsFit → s.leavesLength w l →
    let read := s.withLen { s.len with measured := l }
    let early := load = .beforeSequencer ∨ load = .beforeComputation
    let q := s.newProgress true
    let target := s.targetAt (s.nextSegment true) q
    let error := ((target : Int) - (l : Int)).natAbs
    let settles := s.stop.phase = .ramping ∧ q = s.gov.q ∧ error ≤ s.params.followTol
    let confirmed := (s.loop.brake = .set ∧ s.loop.supervision = .matched) ∨
      (s.loop.brake = .release ∧ s.loop.brakeSample = .set)
    let later := if s.params.tMax < s.tens.latched then addLater s.stop.later .overload else s.stop.later
    let laterStopped := if early then later else s.stop.later
    ∃ t, exec (.lengthSample w load .beforeSequencer) s = .next t ∧ s.loadWritten .stopping t ∧
      t.gov.q = q ∧ t.gov.k = s.nextSegment true ∧ t.gov.dPrev = q - s.gov.q ∧
      t.gov.achieved = (if error ≤ s.params.followTol then q else s.gov.achieved) ∧
      t.loop.target = target ∧ t.stop.first = s.stop.first ∧
      (error ≤ s.params.tripTol → ¬ settles →
        t.seq = s.seq ∧ t.stop = { s.stop with later := later } ∧
        t.loop = (speedCommand target false read).loop) ∧
      (error ≤ s.params.tripTol → settles →
        t.loop.brake = .set ∧
        (confirmed →
          t.stop = { s.stop with phase := .settling, later := laterStopped } ∧
            t.seq = { s.seq with state := .stopped } ∧ t.loop.drive = false ∧
            t.loop.supervision = .matched) ∧
        (¬ confirmed → t.stop = { s.stop with phase := .settling, later := later } ∧
          t.seq = s.seq ∧ t.loop.drive = true ∧
          t.loop.supervision = (if s.loop.brake = .release then .waiting else s.loop.supervision))) ∧
      (s.params.tripTol < error →
        t.seq = { s.seq with state := .stopped } ∧ t.stop.category = .immediate ∧
        t.stop.later = addLater laterStopped .followTrip ∧ t.loop.drive = false ∧ t.loop.brake = .set)

/-- A length sample in PARKING and in STOPPED, at every order of the blocks (R107 with Table 7-3, R119, R129, R130,
R131, R134). In PARKING the line is held at the frozen target; an OVERLOAD, its check after the REPORT, starts a
controlled stop. In STOPPED there is no overload check; the drive, on in ASSIST, holds the line at its target, and
is otherwise left as it is; a length more than the creep limit from the armed reference raises BRAKE_SLIP, which is
recorded, and from category CONTROLLED begins ASSIST at the reference. The length is the one the read leaves, also
after a single failed read. The Load Monitor clears its reasons and its counter. The places of the Load Monitor and
the Creep Watch are operands (assumption log 12). -/
def Obligations.HeldSampleKeepsTheLine : Prop :=
  ∀ (w : EncoderWord) (load creep : CheckPoint) (l : Nat) (s : State), s.quiet = true →
    s.len.reading = true → s.recordFits → s.outputsFit → s.leavesLength w l →
    let read := s.withLen { s.len with measured := l }
    let held := (speedCommand s.loop.target false read).loop
    let overloaded := s.params.tMax < s.tens.latched
    let slips := s.creep.armed = true ∧
      s.params.creepLimit < ((l : Int) - (s.creep.reference : Int)).natAbs
    let cleared := { s.gov with holds := { s.gov.holds with slack := false, loadBand := false } }
    (s.seq.state = .parking → ¬ overloaded →
      ∃ t, exec (.lengthSample w load creep) s = .next t ∧ t.seq = s.seq ∧ t.stop = s.stop ∧
        t.creep = s.creep ∧ t.loop = held ∧ t.gov = cleared ∧
        t.load = { slackCounter := 0, slackDue := false }) ∧
    (s.seq.state = .parking → overloaded →
      ∃ t, exec (.lengthSample w .afterReport creep) s = .next t ∧
        t.seq = { s.seq with state := .stopping } ∧
        t.stop = { s.stop with
          first := some (.overload, s.own), category := .controlled, phase := .ramping, stopTimer := 0 } ∧
        t.creep = s.creep ∧ t.loop = held ∧ t.gov = cleared ∧
        t.load = { slackCounter := 0, slackDue := false }) ∧
    (s.seq.state = .stopped →
      ∃ t, exec (.lengthSample w load creep) s = .next t ∧ t.seq = s.seq ∧ t.creep = s.creep ∧
        t.gov = cleared ∧ t.load = { slackCounter := 0, slackDue := false } ∧
        (¬ slips → t.stop = s.stop ∧ t.loop = if s.stop.category = .assist then held else s.loop) ∧
        (slips → s.stop.category ≠ .controlled →
          t.stop = { s.stop with later := addLater s.stop.later .brakeSlip } ∧
          t.loop = if s.stop.category = .assist then held else s.loop) ∧
        (slips → s.stop.category = .controlled →
          t.stop = { s.stop with
            later := addLater s.stop.later .brakeSlip, category := .assist, assist := true } ∧
          t.loop.drive = true ∧ t.loop.brake = .set ∧
          t.loop.supervision = s.loop.supervision ∧ s.heldByDrive t))

/-- A tension above T_max and a slack counter that reaches its limit, at a length sample in FLYING, stop the flight
where the Load Monitor makes its check (R129, R131, R89, R62, R132). Before the computation, the path stop's
computation is made (R98); before the test for completion, the computation is that of FLYING and no cue is
completed. Between that test and the REPORT, a flight that goes on is stopped, and one that the test has parked is
by OVERLOAD alone: there the counter is 0. An error above the trip tolerance joins the record of a stop begun before
it, and leaves no flight to stop after it. Where the flight is stopped, the STOP frame is requested, and the own
REPORT of this sample shows the fault. OVERLOAD is raised before SLACK_TIMEOUT (assumption log 13). The place of the
check is an operand (assumption log 12); after the REPORT the samples of FLYING above say what is left, and the
counter at its limit waits for its own row (`slackDue`, assumption log 4). -/
def Obligations.LoadMonitorStopsWhereItFinds : Prop :=
  ∀ (w : EncoderWord) (load creep : CheckPoint) (l : Nat) (s : State), s.quiet = true →
    s.len.reading = true → s.seq.state = .flying → s.recordEmpty → s.outputsFit → s.leavesLength w l →
    s.params.tMax < s.tens.latched ∨ s.slackEnds →
    let overloaded := s.params.tMax < s.tens.latched
    let cause : FaultCode := if overloaded then .overload else .slackTimeout
    let early := load = .beforeSequencer ∨ load = .beforeComputation
    let error (b : Bool) := ((s.targetAt (s.nextSegment b) (s.newProgress b) : Int) - (l : Int)).natAbs
    let shown (t : State) : Prop :=
      t.stop.first = some (cause, s.own) ∧
      (∀ r ∈ t.peers.rows, r.station = s.own → ∃ p, r.report = some p ∧
        p.firstFault = BitVec.ofNat 8 cause.code ∧ (p.stateCode = 5#8 ∨ p.stateCode = 6#8))
    let stopped (b : Bool) (t : State) : Prop :=
      t.gov.q = s.newProgress b ∧ t.seq.complete = s.seq.complete ∧ shown t ∧
        (overloaded → s.slackEnds → t.stop.later = addLater 0#24 .slackTimeout) ∧
        (¬ (overloaded ∧ s.slackEnds) → t.stop.later = 0#24) ∧ t.stop.category = .controlled ∧
        (s.link.line = .busy →
          t.link.stopSlot = s.link.stopSlot.request (stopBody s.ownGroup cause.code s.own))
    ∃ t, exec (.lengthSample w load creep) s = .next t ∧
      (early → error true ≤ s.params.tripTol →
        stopped true t ∧
        (t.seq.state = .stopping ∨ (t.seq.state = .stopped ∧ s.loop.brakeSample = .set))) ∧
      (early → s.params.tripTol < error true →
        shown t ∧ t.seq = { s.seq with state := .stopped } ∧ t.stop.category = .immediate ∧
        inLater t.stop.later .followTrip = true ∧
        (s.link.line = .busy → t.link.stopSlot =
          (s.link.stopSlot.request (stopBody s.ownGroup cause.code s.own)).request
            (stopBody s.ownGroup 7 s.own))) ∧
      (load = .beforeCompletion → error false ≤ s.params.tripTol →
        stopped false t ∧ t.seq.state = .stopping) ∧
      (load = .beforeReport → error false ≤ s.params.tripTol →
        let achieved := if error false ≤ s.params.followTol then s.newProgress false else s.gov.achieved
        let left : Sequencer := { s.seq with
          complete := true
          state := if s.loop.brakeSample = .set then .ready else .parking }
        (achieved ≠ s.cueEnd → stopped false t ∧ t.seq.state = .stopping) ∧
        (achieved = s.cueEnd → s.endsIn left.state left t ∧ (overloaded → shown t))) ∧
      (load = .beforeCompletion ∨ load = .beforeReport → s.params.tripTol < error false →
        t.seq = { s.seq with state := .stopped } ∧ t.stop.first = some (.followTrip, s.own) ∧
        t.stop.category = .immediate)

/-! ### Taking a cause -/

/-- What the taking of a cause does (R138 to R141, R145 to R147, Tables 9-2, 9-3 and 9-4): none in START and LOCKED
but the loader's; elsewhere the cause opens the record or joins the later-fault set, and starts or changes the stop
by its category and the category in force; a STOP frame is requested for a cause marked as sent that opens the
record or changes the category. That an entry to ASSIST confirms no brake for the Creep Watch is the model's
inference (assumption log 22). -/
def Obligations.CausesStopAsTables93And94 : Prop :=
  ∀ (c : FaultCode) (src : Nat) (s : State), s.recordFits → s.outputsFit →
    let t := takeCause c src s
    let controlled := c ∈ [FaultCode.lostMember, .memberStopped, .groupStop, .consoleStop, .overload,
      .slackTimeout, .linkMute]
    let assist := c ∈ [FaultCode.brakeNotSet, .brakeSlip]
    let immediate := ¬ controlled ∧ ¬ assist
    let sent := c ∈ [FaultCode.lostMember, .overload, .slackTimeout, .followTrip, .encoder, .driveFault,
      .localStop, .supplyDip, .brakeNotReleased, .brakeNotSet, .brakeSlip, .linkMute]
    let later := addLater s.stop.later c
    let frame := (sent → t.link = s.link.setSlot .stop
        (s.link.stopSlot.request (stopBody s.ownGroup c.code s.own))) ∧ (¬ sent → t.link = s.link)
    (s.seq.state.operating = false → t = s) ∧
    ((s.seq.state = .ready ∨ s.seq.state.inFlight = true) →
      t.stop.first = some (c, src) ∧ t.stop.later = 0#24 ∧ frame ∧
      s.changesOnly [.link, .seq, .loop, .creep, .stop] t ∧
      (controlled → t.stop.category = .controlled ∧ t.stop.assist = false ∧ t.loop = s.loop ∧
        t.creep = s.creep ∧
        (s.seq.state = .ready → t.seq = { s.seq with state := .stopped }) ∧
        (s.seq.state ≠ .ready → t.seq = { s.seq with state := .stopping } ∧
          t.stop.phase = .ramping ∧ t.stop.stopTimer = 0)) ∧
      (immediate → t.stop.category = .immediate ∧ t.stop.assist = false ∧
        t.seq = { s.seq with state := .stopped } ∧ s.brakeCommandedSet false t ∧ t.loop.duty = 512 ∧
        t.loop.speed = 0) ∧
      (assist → t.stop.category = .assist ∧ t.stop.assist = true ∧
        t.seq = { s.seq with state := .stopped } ∧ s.brakeCommandedSet true t ∧ s.heldByDrive t ∧
        t.creep = s.creep)) ∧
    (s.seq.state = .stopping →
      t.stop.first = s.stop.first ∧ t.stop.later = later ∧
      (controlled → t = s.withStop { s.stop with later := later }) ∧
      (immediate → frame ∧ t.stop.category = .immediate ∧ t.stop.assist = false ∧
        t.seq = { s.seq with state := .stopped } ∧ s.brakeCommandedSet false t ∧ t.loop.duty = 512) ∧
      (assist → frame ∧ t.stop.category = .assist ∧ t.stop.assist = true ∧
        t.seq = { s.seq with state := .stopped } ∧ s.brakeCommandedSet true t ∧ s.heldByDrive t)) ∧
    (s.seq.state = .stopped →
      t.stop.first = s.stop.first ∧ t.stop.later = later ∧ t.seq = s.seq ∧
      (controlled ∨ s.stop.category = .immediate ∨ (assist ∧ s.stop.category = .assist) →
        t = s.withStop { s.stop with later := later }) ∧
      (immediate → s.stop.category = .controlled →
        frame ∧ t.loop = s.loop ∧
          t.stop = { s.stop with later := later, category := .immediate }) ∧
      (assist → s.stop.category = .controlled →
        frame ∧ t.loop.drive = true ∧ t.loop.brake = .set ∧ s.heldByDrive t ∧
          t.loop.supervision = s.loop.supervision ∧
          t.stop = { s.stop with later := later, category := .assist, assist := true }) ∧
      (immediate → s.stop.category = .assist →
        frame ∧ t.loop = { s.loop with drive := false, duty := 512, speed := 0 } ∧
          t.stop = { s.stop with later := later, category := .immediate, assist := false }))
end

