-- ==== Sys2Proof/Laws/State.lean ====
section
/-!
SUPPORT. One lemma per field per update of `State`, each true by `rfl`.
-/

namespace Sys2Proof.Machine

variable (s : State)

/-! ### `withLink` -/

section
variable (x : LinkPort)

@[simp] theorem withLink_link : (s.withLink x).link = x := rfl
@[simp] theorem withLink_clock : (s.withLink x).clock = s.clock := rfl
@[simp] theorem withLink_peers : (s.withLink x).peers = s.peers := rfl
@[simp] theorem withLink_path : (s.withLink x).path = s.path := rfl
@[simp] theorem withLink_seq : (s.withLink x).seq = s.seq := rfl
@[simp] theorem withLink_gov : (s.withLink x).gov = s.gov := rfl
@[simp] theorem withLink_loop : (s.withLink x).loop = s.loop := rfl
@[simp] theorem withLink_len : (s.withLink x).len = s.len := rfl
@[simp] theorem withLink_tens : (s.withLink x).tens = s.tens := rfl
@[simp] theorem withLink_load : (s.withLink x).load = s.load := rfl
@[simp] theorem withLink_creep : (s.withLink x).creep = s.creep := rfl
@[simp] theorem withLink_stop : (s.withLink x).stop = s.stop := rfl
@[simp] theorem withLink_loader : (s.withLink x).loader = s.loader := rfl
@[simp] theorem withLink_params : (s.withLink x).params = s.params := rfl
@[simp] theorem withLink_dipLevel : (s.withLink x).dipLevel = s.dipLevel := rfl
@[simp] theorem withLink_pending : (s.withLink x).pending = s.pending := rfl
@[simp] theorem withLink_self : s.withLink s.link = s := rfl

end

/-! ### `withClock` -/

section
variable (x : CycleClock)

@[simp] theorem withClock_link : (s.withClock x).link = s.link := rfl
@[simp] theorem withClock_clock : (s.withClock x).clock = x := rfl
@[simp] theorem withClock_peers : (s.withClock x).peers = s.peers := rfl
@[simp] theorem withClock_path : (s.withClock x).path = s.path := rfl
@[simp] theorem withClock_seq : (s.withClock x).seq = s.seq := rfl
@[simp] theorem withClock_gov : (s.withClock x).gov = s.gov := rfl
@[simp] theorem withClock_loop : (s.withClock x).loop = s.loop := rfl
@[simp] theorem withClock_len : (s.withClock x).len = s.len := rfl
@[simp] theorem withClock_tens : (s.withClock x).tens = s.tens := rfl
@[simp] theorem withClock_load : (s.withClock x).load = s.load := rfl
@[simp] theorem withClock_creep : (s.withClock x).creep = s.creep := rfl
@[simp] theorem withClock_stop : (s.withClock x).stop = s.stop := rfl
@[simp] theorem withClock_loader : (s.withClock x).loader = s.loader := rfl
@[simp] theorem withClock_params : (s.withClock x).params = s.params := rfl
@[simp] theorem withClock_dipLevel : (s.withClock x).dipLevel = s.dipLevel := rfl
@[simp] theorem withClock_pending : (s.withClock x).pending = s.pending := rfl
@[simp] theorem withClock_self : s.withClock s.clock = s := rfl

end

/-! ### `withPeers` -/

section
variable (x : PeerTable)

@[simp] theorem withPeers_link : (s.withPeers x).link = s.link := rfl
@[simp] theorem withPeers_clock : (s.withPeers x).clock = s.clock := rfl
@[simp] theorem withPeers_peers : (s.withPeers x).peers = x := rfl
@[simp] theorem withPeers_path : (s.withPeers x).path = s.path := rfl
@[simp] theorem withPeers_seq : (s.withPeers x).seq = s.seq := rfl
@[simp] theorem withPeers_gov : (s.withPeers x).gov = s.gov := rfl
@[simp] theorem withPeers_loop : (s.withPeers x).loop = s.loop := rfl
@[simp] theorem withPeers_len : (s.withPeers x).len = s.len := rfl
@[simp] theorem withPeers_tens : (s.withPeers x).tens = s.tens := rfl
@[simp] theorem withPeers_load : (s.withPeers x).load = s.load := rfl
@[simp] theorem withPeers_creep : (s.withPeers x).creep = s.creep := rfl
@[simp] theorem withPeers_stop : (s.withPeers x).stop = s.stop := rfl
@[simp] theorem withPeers_loader : (s.withPeers x).loader = s.loader := rfl
@[simp] theorem withPeers_params : (s.withPeers x).params = s.params := rfl
@[simp] theorem withPeers_dipLevel : (s.withPeers x).dipLevel = s.dipLevel := rfl
@[simp] theorem withPeers_pending : (s.withPeers x).pending = s.pending := rfl
@[simp] theorem withPeers_self : s.withPeers s.peers = s := rfl

end

/-! ### `withPath` -/

section
variable (x : PathStore)

@[simp] theorem withPath_link : (s.withPath x).link = s.link := rfl
@[simp] theorem withPath_clock : (s.withPath x).clock = s.clock := rfl
@[simp] theorem withPath_peers : (s.withPath x).peers = s.peers := rfl
@[simp] theorem withPath_path : (s.withPath x).path = x := rfl
@[simp] theorem withPath_seq : (s.withPath x).seq = s.seq := rfl
@[simp] theorem withPath_gov : (s.withPath x).gov = s.gov := rfl
@[simp] theorem withPath_loop : (s.withPath x).loop = s.loop := rfl
@[simp] theorem withPath_len : (s.withPath x).len = s.len := rfl
@[simp] theorem withPath_tens : (s.withPath x).tens = s.tens := rfl
@[simp] theorem withPath_load : (s.withPath x).load = s.load := rfl
@[simp] theorem withPath_creep : (s.withPath x).creep = s.creep := rfl
@[simp] theorem withPath_stop : (s.withPath x).stop = s.stop := rfl
@[simp] theorem withPath_loader : (s.withPath x).loader = s.loader := rfl
@[simp] theorem withPath_params : (s.withPath x).params = s.params := rfl
@[simp] theorem withPath_dipLevel : (s.withPath x).dipLevel = s.dipLevel := rfl
@[simp] theorem withPath_pending : (s.withPath x).pending = s.pending := rfl
@[simp] theorem withPath_self : s.withPath s.path = s := rfl

end

/-! ### `withSeq` -/

section
variable (x : Sequencer)

@[simp] theorem withSeq_link : (s.withSeq x).link = s.link := rfl
@[simp] theorem withSeq_clock : (s.withSeq x).clock = s.clock := rfl
@[simp] theorem withSeq_peers : (s.withSeq x).peers = s.peers := rfl
@[simp] theorem withSeq_path : (s.withSeq x).path = s.path := rfl
@[simp] theorem withSeq_seq : (s.withSeq x).seq = x := rfl
@[simp] theorem withSeq_gov : (s.withSeq x).gov = s.gov := rfl
@[simp] theorem withSeq_loop : (s.withSeq x).loop = s.loop := rfl
@[simp] theorem withSeq_len : (s.withSeq x).len = s.len := rfl
@[simp] theorem withSeq_tens : (s.withSeq x).tens = s.tens := rfl
@[simp] theorem withSeq_load : (s.withSeq x).load = s.load := rfl
@[simp] theorem withSeq_creep : (s.withSeq x).creep = s.creep := rfl
@[simp] theorem withSeq_stop : (s.withSeq x).stop = s.stop := rfl
@[simp] theorem withSeq_loader : (s.withSeq x).loader = s.loader := rfl
@[simp] theorem withSeq_params : (s.withSeq x).params = s.params := rfl
@[simp] theorem withSeq_dipLevel : (s.withSeq x).dipLevel = s.dipLevel := rfl
@[simp] theorem withSeq_pending : (s.withSeq x).pending = s.pending := rfl
@[simp] theorem withSeq_self : s.withSeq s.seq = s := rfl

end

/-! ### `withGov` -/

section
variable (x : Governor)

@[simp] theorem withGov_link : (s.withGov x).link = s.link := rfl
@[simp] theorem withGov_clock : (s.withGov x).clock = s.clock := rfl
@[simp] theorem withGov_peers : (s.withGov x).peers = s.peers := rfl
@[simp] theorem withGov_path : (s.withGov x).path = s.path := rfl
@[simp] theorem withGov_seq : (s.withGov x).seq = s.seq := rfl
@[simp] theorem withGov_gov : (s.withGov x).gov = x := rfl
@[simp] theorem withGov_loop : (s.withGov x).loop = s.loop := rfl
@[simp] theorem withGov_len : (s.withGov x).len = s.len := rfl
@[simp] theorem withGov_tens : (s.withGov x).tens = s.tens := rfl
@[simp] theorem withGov_load : (s.withGov x).load = s.load := rfl
@[simp] theorem withGov_creep : (s.withGov x).creep = s.creep := rfl
@[simp] theorem withGov_stop : (s.withGov x).stop = s.stop := rfl
@[simp] theorem withGov_loader : (s.withGov x).loader = s.loader := rfl
@[simp] theorem withGov_params : (s.withGov x).params = s.params := rfl
@[simp] theorem withGov_dipLevel : (s.withGov x).dipLevel = s.dipLevel := rfl
@[simp] theorem withGov_pending : (s.withGov x).pending = s.pending := rfl
@[simp] theorem withGov_self : s.withGov s.gov = s := rfl

end

/-! ### `withLoop` -/

section
variable (x : LineLoop)

@[simp] theorem withLoop_link : (s.withLoop x).link = s.link := rfl
@[simp] theorem withLoop_clock : (s.withLoop x).clock = s.clock := rfl
@[simp] theorem withLoop_peers : (s.withLoop x).peers = s.peers := rfl
@[simp] theorem withLoop_path : (s.withLoop x).path = s.path := rfl
@[simp] theorem withLoop_seq : (s.withLoop x).seq = s.seq := rfl
@[simp] theorem withLoop_gov : (s.withLoop x).gov = s.gov := rfl
@[simp] theorem withLoop_loop : (s.withLoop x).loop = x := rfl
@[simp] theorem withLoop_len : (s.withLoop x).len = s.len := rfl
@[simp] theorem withLoop_tens : (s.withLoop x).tens = s.tens := rfl
@[simp] theorem withLoop_load : (s.withLoop x).load = s.load := rfl
@[simp] theorem withLoop_creep : (s.withLoop x).creep = s.creep := rfl
@[simp] theorem withLoop_stop : (s.withLoop x).stop = s.stop := rfl
@[simp] theorem withLoop_loader : (s.withLoop x).loader = s.loader := rfl
@[simp] theorem withLoop_params : (s.withLoop x).params = s.params := rfl
@[simp] theorem withLoop_dipLevel : (s.withLoop x).dipLevel = s.dipLevel := rfl
@[simp] theorem withLoop_pending : (s.withLoop x).pending = s.pending := rfl
@[simp] theorem withLoop_self : s.withLoop s.loop = s := rfl

end

/-! ### `withLen` -/

section
variable (x : LengthReader)

@[simp] theorem withLen_link : (s.withLen x).link = s.link := rfl
@[simp] theorem withLen_clock : (s.withLen x).clock = s.clock := rfl
@[simp] theorem withLen_peers : (s.withLen x).peers = s.peers := rfl
@[simp] theorem withLen_path : (s.withLen x).path = s.path := rfl
@[simp] theorem withLen_seq : (s.withLen x).seq = s.seq := rfl
@[simp] theorem withLen_gov : (s.withLen x).gov = s.gov := rfl
@[simp] theorem withLen_loop : (s.withLen x).loop = s.loop := rfl
@[simp] theorem withLen_len : (s.withLen x).len = x := rfl
@[simp] theorem withLen_tens : (s.withLen x).tens = s.tens := rfl
@[simp] theorem withLen_load : (s.withLen x).load = s.load := rfl
@[simp] theorem withLen_creep : (s.withLen x).creep = s.creep := rfl
@[simp] theorem withLen_stop : (s.withLen x).stop = s.stop := rfl
@[simp] theorem withLen_loader : (s.withLen x).loader = s.loader := rfl
@[simp] theorem withLen_params : (s.withLen x).params = s.params := rfl
@[simp] theorem withLen_dipLevel : (s.withLen x).dipLevel = s.dipLevel := rfl
@[simp] theorem withLen_pending : (s.withLen x).pending = s.pending := rfl
@[simp] theorem withLen_self : s.withLen s.len = s := rfl

end

/-! ### `withTens` -/

section
variable (x : TensionFilter)

@[simp] theorem withTens_link : (s.withTens x).link = s.link := rfl
@[simp] theorem withTens_clock : (s.withTens x).clock = s.clock := rfl
@[simp] theorem withTens_peers : (s.withTens x).peers = s.peers := rfl
@[simp] theorem withTens_path : (s.withTens x).path = s.path := rfl
@[simp] theorem withTens_seq : (s.withTens x).seq = s.seq := rfl
@[simp] theorem withTens_gov : (s.withTens x).gov = s.gov := rfl
@[simp] theorem withTens_loop : (s.withTens x).loop = s.loop := rfl
@[simp] theorem withTens_len : (s.withTens x).len = s.len := rfl
@[simp] theorem withTens_tens : (s.withTens x).tens = x := rfl
@[simp] theorem withTens_load : (s.withTens x).load = s.load := rfl
@[simp] theorem withTens_creep : (s.withTens x).creep = s.creep := rfl
@[simp] theorem withTens_stop : (s.withTens x).stop = s.stop := rfl
@[simp] theorem withTens_loader : (s.withTens x).loader = s.loader := rfl
@[simp] theorem withTens_params : (s.withTens x).params = s.params := rfl
@[simp] theorem withTens_dipLevel : (s.withTens x).dipLevel = s.dipLevel := rfl
@[simp] theorem withTens_pending : (s.withTens x).pending = s.pending := rfl
@[simp] theorem withTens_self : s.withTens s.tens = s := rfl

end

/-! ### `withLoad` -/

section
variable (x : LoadMonitor)

@[simp] theorem withLoad_link : (s.withLoad x).link = s.link := rfl
@[simp] theorem withLoad_clock : (s.withLoad x).clock = s.clock := rfl
@[simp] theorem withLoad_peers : (s.withLoad x).peers = s.peers := rfl
@[simp] theorem withLoad_path : (s.withLoad x).path = s.path := rfl
@[simp] theorem withLoad_seq : (s.withLoad x).seq = s.seq := rfl
@[simp] theorem withLoad_gov : (s.withLoad x).gov = s.gov := rfl
@[simp] theorem withLoad_loop : (s.withLoad x).loop = s.loop := rfl
@[simp] theorem withLoad_len : (s.withLoad x).len = s.len := rfl
@[simp] theorem withLoad_tens : (s.withLoad x).tens = s.tens := rfl
@[simp] theorem withLoad_load : (s.withLoad x).load = x := rfl
@[simp] theorem withLoad_creep : (s.withLoad x).creep = s.creep := rfl
@[simp] theorem withLoad_stop : (s.withLoad x).stop = s.stop := rfl
@[simp] theorem withLoad_loader : (s.withLoad x).loader = s.loader := rfl
@[simp] theorem withLoad_params : (s.withLoad x).params = s.params := rfl
@[simp] theorem withLoad_dipLevel : (s.withLoad x).dipLevel = s.dipLevel := rfl
@[simp] theorem withLoad_pending : (s.withLoad x).pending = s.pending := rfl
@[simp] theorem withLoad_self : s.withLoad s.load = s := rfl

end

/-! ### `withCreep` -/

section
variable (x : CreepWatch)

@[simp] theorem withCreep_link : (s.withCreep x).link = s.link := rfl
@[simp] theorem withCreep_clock : (s.withCreep x).clock = s.clock := rfl
@[simp] theorem withCreep_peers : (s.withCreep x).peers = s.peers := rfl
@[simp] theorem withCreep_path : (s.withCreep x).path = s.path := rfl
@[simp] theorem withCreep_seq : (s.withCreep x).seq = s.seq := rfl
@[simp] theorem withCreep_gov : (s.withCreep x).gov = s.gov := rfl
@[simp] theorem withCreep_loop : (s.withCreep x).loop = s.loop := rfl
@[simp] theorem withCreep_len : (s.withCreep x).len = s.len := rfl
@[simp] theorem withCreep_tens : (s.withCreep x).tens = s.tens := rfl
@[simp] theorem withCreep_load : (s.withCreep x).load = s.load := rfl
@[simp] theorem withCreep_creep : (s.withCreep x).creep = x := rfl
@[simp] theorem withCreep_stop : (s.withCreep x).stop = s.stop := rfl
@[simp] theorem withCreep_loader : (s.withCreep x).loader = s.loader := rfl
@[simp] theorem withCreep_params : (s.withCreep x).params = s.params := rfl
@[simp] theorem withCreep_dipLevel : (s.withCreep x).dipLevel = s.dipLevel := rfl
@[simp] theorem withCreep_pending : (s.withCreep x).pending = s.pending := rfl
@[simp] theorem withCreep_self : s.withCreep s.creep = s := rfl

end

/-! ### `withStop` -/

section
variable (x : StopController)

@[simp] theorem withStop_link : (s.withStop x).link = s.link := rfl
@[simp] theorem withStop_clock : (s.withStop x).clock = s.clock := rfl
@[simp] theorem withStop_peers : (s.withStop x).peers = s.peers := rfl
@[simp] theorem withStop_path : (s.withStop x).path = s.path := rfl
@[simp] theorem withStop_seq : (s.withStop x).seq = s.seq := rfl
@[simp] theorem withStop_gov : (s.withStop x).gov = s.gov := rfl
@[simp] theorem withStop_loop : (s.withStop x).loop = s.loop := rfl
@[simp] theorem withStop_len : (s.withStop x).len = s.len := rfl
@[simp] theorem withStop_tens : (s.withStop x).tens = s.tens := rfl
@[simp] theorem withStop_load : (s.withStop x).load = s.load := rfl
@[simp] theorem withStop_creep : (s.withStop x).creep = s.creep := rfl
@[simp] theorem withStop_stop : (s.withStop x).stop = x := rfl
@[simp] theorem withStop_loader : (s.withStop x).loader = s.loader := rfl
@[simp] theorem withStop_params : (s.withStop x).params = s.params := rfl
@[simp] theorem withStop_dipLevel : (s.withStop x).dipLevel = s.dipLevel := rfl
@[simp] theorem withStop_pending : (s.withStop x).pending = s.pending := rfl
@[simp] theorem withStop_self : s.withStop s.stop = s := rfl

end

/-! ### `withLoader` -/

section
variable (x : ImageLoader)

@[simp] theorem withLoader_link : (s.withLoader x).link = s.link := rfl
@[simp] theorem withLoader_clock : (s.withLoader x).clock = s.clock := rfl
@[simp] theorem withLoader_peers : (s.withLoader x).peers = s.peers := rfl
@[simp] theorem withLoader_path : (s.withLoader x).path = s.path := rfl
@[simp] theorem withLoader_seq : (s.withLoader x).seq = s.seq := rfl
@[simp] theorem withLoader_gov : (s.withLoader x).gov = s.gov := rfl
@[simp] theorem withLoader_loop : (s.withLoader x).loop = s.loop := rfl
@[simp] theorem withLoader_len : (s.withLoader x).len = s.len := rfl
@[simp] theorem withLoader_tens : (s.withLoader x).tens = s.tens := rfl
@[simp] theorem withLoader_load : (s.withLoader x).load = s.load := rfl
@[simp] theorem withLoader_creep : (s.withLoader x).creep = s.creep := rfl
@[simp] theorem withLoader_stop : (s.withLoader x).stop = s.stop := rfl
@[simp] theorem withLoader_loader : (s.withLoader x).loader = x := rfl
@[simp] theorem withLoader_params : (s.withLoader x).params = s.params := rfl
@[simp] theorem withLoader_dipLevel : (s.withLoader x).dipLevel = s.dipLevel := rfl
@[simp] theorem withLoader_pending : (s.withLoader x).pending = s.pending := rfl
@[simp] theorem withLoader_self : s.withLoader s.loader = s := rfl

end

/-! ### `withParams` -/

section
variable (x : Params)

@[simp] theorem withParams_link : (s.withParams x).link = s.link := rfl
@[simp] theorem withParams_clock : (s.withParams x).clock = s.clock := rfl
@[simp] theorem withParams_peers : (s.withParams x).peers = s.peers := rfl
@[simp] theorem withParams_path : (s.withParams x).path = s.path := rfl
@[simp] theorem withParams_seq : (s.withParams x).seq = s.seq := rfl
@[simp] theorem withParams_gov : (s.withParams x).gov = s.gov := rfl
@[simp] theorem withParams_loop : (s.withParams x).loop = s.loop := rfl
@[simp] theorem withParams_len : (s.withParams x).len = s.len := rfl
@[simp] theorem withParams_tens : (s.withParams x).tens = s.tens := rfl
@[simp] theorem withParams_load : (s.withParams x).load = s.load := rfl
@[simp] theorem withParams_creep : (s.withParams x).creep = s.creep := rfl
@[simp] theorem withParams_stop : (s.withParams x).stop = s.stop := rfl
@[simp] theorem withParams_loader : (s.withParams x).loader = s.loader := rfl
@[simp] theorem withParams_params : (s.withParams x).params = x := rfl
@[simp] theorem withParams_dipLevel : (s.withParams x).dipLevel = s.dipLevel := rfl
@[simp] theorem withParams_pending : (s.withParams x).pending = s.pending := rfl
@[simp] theorem withParams_self : s.withParams s.params = s := rfl

end

/-! ### `withDip` -/

section
variable (x : Bool)

@[simp] theorem withDip_link : (s.withDip x).link = s.link := rfl
@[simp] theorem withDip_clock : (s.withDip x).clock = s.clock := rfl
@[simp] theorem withDip_peers : (s.withDip x).peers = s.peers := rfl
@[simp] theorem withDip_path : (s.withDip x).path = s.path := rfl
@[simp] theorem withDip_seq : (s.withDip x).seq = s.seq := rfl
@[simp] theorem withDip_gov : (s.withDip x).gov = s.gov := rfl
@[simp] theorem withDip_loop : (s.withDip x).loop = s.loop := rfl
@[simp] theorem withDip_len : (s.withDip x).len = s.len := rfl
@[simp] theorem withDip_tens : (s.withDip x).tens = s.tens := rfl
@[simp] theorem withDip_load : (s.withDip x).load = s.load := rfl
@[simp] theorem withDip_creep : (s.withDip x).creep = s.creep := rfl
@[simp] theorem withDip_stop : (s.withDip x).stop = s.stop := rfl
@[simp] theorem withDip_loader : (s.withDip x).loader = s.loader := rfl
@[simp] theorem withDip_params : (s.withDip x).params = s.params := rfl
@[simp] theorem withDip_dipLevel : (s.withDip x).dipLevel = x := rfl
@[simp] theorem withDip_pending : (s.withDip x).pending = s.pending := rfl
@[simp] theorem withDip_self : s.withDip s.dipLevel = s := rfl

end

/-! ### `withPending` -/

section
variable (x : List Instr)

@[simp] theorem withPending_link : (s.withPending x).link = s.link := rfl
@[simp] theorem withPending_clock : (s.withPending x).clock = s.clock := rfl
@[simp] theorem withPending_peers : (s.withPending x).peers = s.peers := rfl
@[simp] theorem withPending_path : (s.withPending x).path = s.path := rfl
@[simp] theorem withPending_seq : (s.withPending x).seq = s.seq := rfl
@[simp] theorem withPending_gov : (s.withPending x).gov = s.gov := rfl
@[simp] theorem withPending_loop : (s.withPending x).loop = s.loop := rfl
@[simp] theorem withPending_len : (s.withPending x).len = s.len := rfl
@[simp] theorem withPending_tens : (s.withPending x).tens = s.tens := rfl
@[simp] theorem withPending_load : (s.withPending x).load = s.load := rfl
@[simp] theorem withPending_creep : (s.withPending x).creep = s.creep := rfl
@[simp] theorem withPending_stop : (s.withPending x).stop = s.stop := rfl
@[simp] theorem withPending_loader : (s.withPending x).loader = s.loader := rfl
@[simp] theorem withPending_params : (s.withPending x).params = s.params := rfl
@[simp] theorem withPending_dipLevel : (s.withPending x).dipLevel = s.dipLevel := rfl
@[simp] theorem withPending_pending : (s.withPending x).pending = x := rfl
@[simp] theorem withPending_self : s.withPending s.pending = s := rfl

end

/-! ### `toState` -/

section
variable (st : StationState)

@[simp] theorem toState_link : (toState st s).link = s.link := rfl
@[simp] theorem toState_clock : (toState st s).clock = s.clock := rfl
@[simp] theorem toState_peers : (toState st s).peers = s.peers := rfl
@[simp] theorem toState_path : (toState st s).path = s.path := rfl
@[simp] theorem toState_gov : (toState st s).gov = s.gov := rfl
@[simp] theorem toState_loop : (toState st s).loop = s.loop := rfl
@[simp] theorem toState_len : (toState st s).len = s.len := rfl
@[simp] theorem toState_tens : (toState st s).tens = s.tens := rfl
@[simp] theorem toState_load : (toState st s).load = s.load := rfl
@[simp] theorem toState_creep : (toState st s).creep = s.creep := rfl
@[simp] theorem toState_stop : (toState st s).stop = s.stop := rfl
@[simp] theorem toState_loader : (toState st s).loader = s.loader := rfl
@[simp] theorem toState_params : (toState st s).params = s.params := rfl
@[simp] theorem toState_dipLevel : (toState st s).dipLevel = s.dipLevel := rfl
@[simp] theorem toState_pending : (toState st s).pending = s.pending := rfl
@[simp] theorem toState_state : (toState st s).seq.state = st := rfl
@[simp] theorem toState_refusal : (toState st s).seq.refusal = s.seq.refusal := rfl
@[simp] theorem toState_primeTimer : (toState st s).seq.primeTimer = s.seq.primeTimer := rfl
@[simp] theorem toState_complete : (toState st s).seq.complete = s.seq.complete := rfl

end

end Sys2Proof.Machine
end

