-- ==== Sys2Proof/Laws/Touches.lean ====
section
/-!
SUPPORT. What each operation can change, said once: `op_only` lists the blocks of the state that an
operation may change. Every other block is read off it with `changesOnly.gov`, `changesOnly.path`, ….
-/

namespace Sys2Proof.Machine

/- One theorem after another: with many small proofs in flight at once Lean starts a thread for each. -/
set_option Elab.async false

variable {s t w : State} {l l₁ l₂ : List Block}

/-! ### Working with `changesOnly` -/

theorem State.changesOnly.refl : s.changesOnly l s := fun b _ => by cases b <;> rfl

/-- Every block of one list is in another: a `Bool`, so that `rfl` settles it. -/
def Block.within (l₁ l₂ : List Block) : Bool := l₁.all fun b => l₂.elem b

theorem State.changesOnly.mono (h : s.changesOnly l₁ t)
    (sub : Block.within l₁ l = true := by exact rfl) : s.changesOnly l t :=
  fun b hb => h b fun hm => hb (List.elem_iff.mp (List.all_eq_true.mp sub b hm))

theorem State.sameBlock.trans {b : Block} (h₁ : s.sameBlock t b) (h₂ : t.sameBlock w b) :
    s.sameBlock w b := by cases b <;> exact Eq.trans h₂ h₁

/-- Two operations after one another. -/
theorem State.changesOnly.next (h₁ : s.changesOnly l₁ t) (h₂ : t.changesOnly l₂ w)
    (sub₁ : Block.within l₁ l = true := by exact rfl)
    (sub₂ : Block.within l₂ l = true := by exact rfl) : s.changesOnly l w :=
  fun b hb => ((h₁.mono sub₁) b hb).trans ((h₂.mono sub₂) b hb)

theorem not_mem_of {b : Block} (hb : l.elem b = false) : b ∉ l := fun hm => by
  rw [List.elem_iff.mpr hm] at hb; cases hb

section
variable (h : s.changesOnly l t)
include h

theorem State.changesOnly.link (hb : l.elem .link = false := by exact rfl) : t.link = s.link := h _ (not_mem_of hb)
theorem State.changesOnly.clock (hb : l.elem .clock = false := by exact rfl) : t.clock = s.clock := h _ (not_mem_of hb)
theorem State.changesOnly.peers (hb : l.elem .peers = false := by exact rfl) : t.peers = s.peers := h _ (not_mem_of hb)
theorem State.changesOnly.path (hb : l.elem .path = false := by exact rfl) : t.path = s.path := h _ (not_mem_of hb)
theorem State.changesOnly.seq (hb : l.elem .seq = false := by exact rfl) : t.seq = s.seq := h _ (not_mem_of hb)
theorem State.changesOnly.gov (hb : l.elem .gov = false := by exact rfl) : t.gov = s.gov := h _ (not_mem_of hb)
theorem State.changesOnly.loop (hb : l.elem .loop = false := by exact rfl) : t.loop = s.loop := h _ (not_mem_of hb)
theorem State.changesOnly.len (hb : l.elem .len = false := by exact rfl) : t.len = s.len := h _ (not_mem_of hb)
theorem State.changesOnly.tens (hb : l.elem .tens = false := by exact rfl) : t.tens = s.tens := h _ (not_mem_of hb)
theorem State.changesOnly.load (hb : l.elem .load = false := by exact rfl) : t.load = s.load := h _ (not_mem_of hb)
theorem State.changesOnly.creep (hb : l.elem .creep = false := by exact rfl) : t.creep = s.creep := h _ (not_mem_of hb)
theorem State.changesOnly.stop (hb : l.elem .stop = false := by exact rfl) : t.stop = s.stop := h _ (not_mem_of hb)
theorem State.changesOnly.loader (hb : l.elem .loader = false := by exact rfl) : t.loader = s.loader := h _ (not_mem_of hb)
theorem State.changesOnly.params (hb : l.elem .params = false := by exact rfl) : t.params = s.params := h _ (not_mem_of hb)
theorem State.changesOnly.dipLevel (hb : l.elem .dipLevel = false := by exact rfl) :
    t.dipLevel = s.dipLevel := h _ (not_mem_of hb)
theorem State.changesOnly.pending (hb : l.elem .pending = false := by exact rfl) :
    t.pending = s.pending := h _ (not_mem_of hb)

end

/-! ### The updates of one block -/

variable (s)

theorem withLink_only (x : LinkPort) : s.changesOnly [.link] (s.withLink x) := by
  intro b hb; cases b <;> first | rfl | simp at hb
theorem withClock_only (x : CycleClock) : s.changesOnly [.clock] (s.withClock x) := by
  intro b hb; cases b <;> first | rfl | simp at hb
theorem withPeers_only (x : PeerTable) : s.changesOnly [.peers] (s.withPeers x) := by
  intro b hb; cases b <;> first | rfl | simp at hb
theorem withSeq_only (x : Sequencer) : s.changesOnly [.seq] (s.withSeq x) := by
  intro b hb; cases b <;> first | rfl | simp at hb
theorem withGov_only (x : Governor) : s.changesOnly [.gov] (s.withGov x) := by
  intro b hb; cases b <;> first | rfl | simp at hb
theorem withLoop_only (x : LineLoop) : s.changesOnly [.loop] (s.withLoop x) := by
  intro b hb; cases b <;> first | rfl | simp at hb
theorem withLen_only (x : LengthReader) : s.changesOnly [.len] (s.withLen x) := by
  intro b hb; cases b <;> first | rfl | simp at hb
theorem withTens_only (x : TensionFilter) : s.changesOnly [.tens] (s.withTens x) := by
  intro b hb; cases b <;> first | rfl | simp at hb
theorem withLoad_only (x : LoadMonitor) : s.changesOnly [.load] (s.withLoad x) := by
  intro b hb; cases b <;> first | rfl | simp at hb
theorem withCreep_only (x : CreepWatch) : s.changesOnly [.creep] (s.withCreep x) := by
  intro b hb; cases b <;> first | rfl | simp at hb
theorem withStop_only (x : StopController) : s.changesOnly [.stop] (s.withStop x) := by
  intro b hb; cases b <;> first | rfl | simp at hb
theorem withLoader_only (x : ImageLoader) : s.changesOnly [.loader] (s.withLoader x) := by
  intro b hb; cases b <;> first | rfl | simp at hb

/-! ### Time, slots, brake and drive (Ops.lean) -/

/-- The blocks a brake command can change. -/
abbrev brakeBlocks : List Block := [.seq, .loop, .creep]

/-- The blocks the start or change of a stop can change. -/
abbrev stopBlocks : List Block := [.seq, .loop, .creep, .stop]

/-- The blocks the taking of a cause can change. -/
abbrev causeBlocks : List Block := [.link, .seq, .loop, .creep, .stop]

theorem elapse_only (n : Nat) : s.changesOnly [.clock, .loop, .stop, .loader] (elapse n s) := by
  intro b hb; cases b <;> first | rfl | simp at hb

theorem requestSlot_only (k : SlotKind) (body : List Byte) :
    s.changesOnly [.link] (requestSlot k body s) := withLink_only s _

theorem beginAttempt_only : s.changesOnly [.link] (beginAttempt s) := by
  unfold beginAttempt
  split
  · split
    · exact withLink_only s _
    · exact .refl
  · exact .refl

theorem armCreep_only : s.changesOnly [.creep] (armCreep s) := withCreep_only s _

theorem disarmCreep_only : s.changesOnly [.creep] (disarmCreep s) := withCreep_only s _

theorem driveOff_only : s.changesOnly [.loop] (driveOff s) := withLoop_only s _

theorem parked_only : s.changesOnly [.seq, .loop] (parked s) :=
  (driveOff_only s).next (withSeq_only _ _)

theorem settled_only : s.changesOnly [.seq, .loop] (settled s) :=
  (driveOff_only s).next (withSeq_only _ _)

theorem brakeSetConfirmed_only : s.changesOnly brakeBlocks (brakeSetConfirmed s) := by
  unfold brakeSetConfirmed
  split
  · exact (armCreep_only s).next (parked_only _)
  · split
    · exact (armCreep_only s).next (settled_only _)
    · exact (armCreep_only s).mono
  · split
    · exact .refl
    · exact (armCreep_only s).mono
  all_goals exact .refl

theorem confirmBrake_only : s.changesOnly brakeBlocks (confirmBrake s) := by
  unfold confirmBrake
  split
  · exact (withLoop_only s _).mono
  · exact (withLoop_only s _).next (brakeSetConfirmed_only _)

theorem restartSupervision_only : s.changesOnly brakeBlocks (restartSupervision s) := by
  unfold restartSupervision
  dsimp only
  split
  · exact (withLoop_only s _).next (confirmBrake_only _)
  · exact (withLoop_only s _).mono

theorem commandBrake_only (c : BrakeCommand) : s.changesOnly brakeBlocks (commandBrake c s) := by
  unfold commandBrake
  split
  · exact .refl
  · dsimp only
    split
    · exact (withLoop_only s _).next (restartSupervision_only _)
    · exact (withLoop_only s _).mono

theorem primeRequest_only (l0 : Nat) : s.changesOnly brakeBlocks (primeRequest l0 s) :=
  ((withLoop_only s _).next (disarmCreep_only _) (l := brakeBlocks)).next (commandBrake_only _ _)

theorem parkRequest_only : s.changesOnly brakeBlocks (parkRequest s) :=
  (withLoop_only s _).next (commandBrake_only _ _)

theorem settleRequest_only : s.changesOnly brakeBlocks (settleRequest s) := by
  unfold settleRequest
  split
  · split
    · exact (settled_only s).mono
    · exact .refl
  · exact commandBrake_only _ _

theorem immediateRequest_only : s.changesOnly brakeBlocks (immediateRequest s) :=
  (driveOff_only s).next (commandBrake_only _ _)

theorem assistRequest_only : s.changesOnly brakeBlocks (assistRequest s) :=
  (withLoop_only s _).next (commandBrake_only _ _)

theorem endAssistRequest_only : s.changesOnly brakeBlocks (endAssistRequest s) :=
  (driveOff_only s).next (commandBrake_only _ _)

theorem lockRequest_only : s.changesOnly [.loop] (lockRequest s) := withLoop_only s _

theorem stopFromReady_only (cat : Category) : s.changesOnly stopBlocks (stopFromReady cat s) := by
  have h : s.changesOnly stopBlocks (toState .stopped (s.withStop (s.stop.enterCategory cat))) :=
    (withStop_only s _).next (withSeq_only _ _)
  cases cat
  · exact .refl
  · exact h
  · exact h.next (immediateRequest_only _)
  · exact h.next (assistRequest_only _)

theorem stopFromFlight_only (cat : Category) : s.changesOnly stopBlocks (stopFromFlight cat s) := by
  have h : s.changesOnly stopBlocks (s.withStop (s.stop.enterCategory cat)) := (withStop_only s _).mono
  cases cat
  · exact .refl
  · exact (h.next (withStop_only _ _) (l := stopBlocks)).next (withSeq_only _ _)
  · exact (h.next (withSeq_only _ _) (l := stopBlocks)).next (immediateRequest_only _)
  · exact (h.next (withSeq_only _ _) (l := stopBlocks)).next (assistRequest_only _)

theorem stopFromStopping_only (cat : Category) :
    s.changesOnly stopBlocks (stopFromStopping cat s) := by
  cases cat
  · exact .refl
  · exact .refl
  · exact ((withStop_only s _).next (withSeq_only _ _) (l := stopBlocks)).next (immediateRequest_only _)
  · exact ((withStop_only s _).next (withSeq_only _ _) (l := stopBlocks)).next (assistRequest_only _)

theorem stopFromStopped_only (cat : Category) :
    s.changesOnly stopBlocks (stopFromStopped cat s) := by
  unfold stopFromStopped
  split
  · exact (withStop_only s _).next (immediateRequest_only _)
  · exact (withStop_only s _).next (assistRequest_only _)
  · exact (withStop_only s _).next (endAssistRequest_only _)
  · exact .refl

theorem applyStop_only (cat : Category) : s.changesOnly stopBlocks (applyStop cat s) := by
  unfold applyStop
  split
  · exact stopFromReady_only s cat
  · exact stopFromFlight_only s cat
  · exact stopFromFlight_only s cat
  · exact stopFromFlight_only s cat
  · exact stopFromStopping_only s cat
  · exact stopFromStopped_only s cat
  · exact .refl
  · exact .refl

theorem intake_only (c : FaultCode) (src : Nat) : s.changesOnly stopBlocks (intake c src s) :=
  (withStop_only s _).next (applyStop_only _ _)

theorem takeCause_only (c : FaultCode) (src : Nat) : s.changesOnly causeBlocks (takeCause c src s) := by
  unfold takeCause
  split
  · split
    · exact (intake_only s c src).next (requestSlot_only _ _ _)
    · exact (intake_only s c src).mono
  · exact .refl

theorem takeDuplicate_only : s.changesOnly causeBlocks (takeDuplicate s) := by
  unfold takeDuplicate
  dsimp only
  split
  · exact takeCause_only s _ _
  · exact ((takeCause_only s _ _).next (requestSlot_only _ _ _) (l := causeBlocks)).next
      (withStop_only _ _)

theorem enterParking_only : s.changesOnly [.seq, .gov, .loop, .creep] (enterParking s) :=
  ((withSeq_only s _).next (withGov_only _ _) (l := [.seq, .gov])).next (parkRequest_only _)

theorem enterLocked_only : s.changesOnly [.link, .clock, .seq, .loop, .stop] (enterLocked s) := by
  intro b hb; cases b <;> first | rfl | simp at hb

/-! ### The Peer Table -/

theorem recomputePeerStale_only : s.changesOnly [.gov] (recomputePeerStale s) := withGov_only s _

theorem agePeers_only : s.changesOnly [.peers] (agePeers s) := withPeers_only s _

theorem storeReport_only (n : Nat) (p : Report) :
    s.changesOnly [.link, .peers, .seq, .gov, .loop, .creep, .stop] (storeReport n p s) := by
  have h := (withPeers_only s { s.peers with rows := s.peers.rows.map (storeInRow n p) }).next
    (recomputePeerStale_only _) (l := [.peers, .gov])
  unfold storeReport
  dsimp only
  split
  · exact h.next (takeCause_only _ _ _)
  · exact h.mono

theorem takeReport_only (n : Nat) (p : Report) :
    s.changesOnly [.link, .peers, .seq, .gov, .loop, .creep, .stop] (takeReport n p s) := by
  unfold takeReport
  split
  · exact .refl
  · split
    · exact storeReport_only s n p
    · exact .refl

theorem composeReport_only : s.changesOnly [.link, .peers] (composeReport s) := by
  unfold composeReport
  split
  · exact (withPeers_only s _).next (requestSlot_only _ _ _)
  · exact .refl

/-! ### The cycle computation and the flight sequence -/

theorem judgeFollow_only : s.changesOnly [.gov] (judgeFollow s) := by
  unfold judgeFollow
  split <;> exact withGov_only s _

theorem judgeTrip_only : s.changesOnly causeBlocks (judgeTrip s) := by
  unfold judgeTrip
  split
  · exact takeCause_only s _ _
  · exact .refl

theorem moveProgress_only (stopping : Bool) : s.changesOnly [.gov] (moveProgress stopping s) :=
  withGov_only s _

theorem speedCommand_only (target : Nat) (entering : Bool) :
    s.changesOnly [.loop] (speedCommand target entering s) := withLoop_only s _

/-- The blocks a cycle computation can change. -/
abbrev cycleBlocks : List Block := [.link, .seq, .gov, .loop, .creep, .stop]

theorem cycleComputation_only (stopping entering : Bool) :
    s.changesOnly cycleBlocks (cycleComputation stopping entering s) :=
  (((moveProgress_only s _).next (speedCommand_only _ _ _) (l := cycleBlocks)).next
    (judgeFollow_only _) (l := cycleBlocks)).next (judgeTrip_only _)

theorem settleTest_only : s.changesOnly stopBlocks (settleTest s) := by
  unfold settleTest
  split
  · exact (withStop_only s _).next (settleRequest_only _)
  · exact .refl

theorem loopWork_only (entering : Bool) : s.changesOnly cycleBlocks (loopWork entering s) := by
  unfold loopWork
  split
  · exact cycleComputation_only s _ _
  · exact (cycleComputation_only s _ _).next (settleTest_only _)
  · split
    · exact (speedCommand_only s _ _).mono
    · exact .refl
  · split
    · exact (speedCommand_only s _ _).mono
    · exact .refl
  · split
    · exact (speedCommand_only s _ _).mono
    · exact .refl
  all_goals exact .refl

theorem refuse_only (code : RefusalCode) : s.changesOnly [.seq] (refuse code s) := withSeq_only s _

theorem acceptGo_only (c : Nat) (e : CueEntry) :
    s.changesOnly [.seq, .gov, .loop, .creep] (acceptGo c e s) := by
  unfold acceptGo
  refine State.changesOnly.next (l₁ := [.seq, .gov, .loop]) ?_ (primeRequest_only _ _)
  intro b hb; cases b <;> first | rfl | simp at hb

theorem takeGo_only (g c : Nat) : s.changesOnly [.seq, .gov, .loop, .creep] (takeGo g c s) := by
  unfold takeGo
  split
  · split
    · exact (refuse_only s _).mono
    · exact acceptGo_only s _ _
  · exact .refl

theorem primedWork_only : s.changesOnly [.seq, .gov, .loop, .creep] (primedWork s) := by
  unfold primedWork
  split
  · split
    · exact (refuse_only s _).next (enterParking_only _)
    · split
      · exact (withSeq_only s _).mono
      · exact .refl
  · exact .refl

theorem completionTest_only : s.changesOnly [.seq, .gov, .loop, .creep] (completionTest s) := by
  unfold completionTest
  split
  · exact (withSeq_only s _).next (enterParking_only _)
  · exact .refl

/-! ### The length sample -/

theorem completeRead_only (w : EncoderWord) :
    s.changesOnly [.link, .seq, .loop, .len, .creep, .stop] (completeRead w s) := by
  unfold completeRead
  dsimp only
  split
  · exact (withLen_only s _).next (takeCause_only _ _ _)
  · exact (withLen_only s _).mono

theorem loadCheck_only :
    s.changesOnly [.link, .seq, .gov, .loop, .load, .creep, .stop] (loadCheck s) := by
  have h := (withGov_only s { s.gov with holds := s.loadHolds }).next (withLoad_only _ {
    slackCounter := s.slackCount
    slackDue := decide (s.seq.state = .flying) && decide (s.params.slackLimit ≤ s.slackCount) })
    (l := [.gov, .load])
  unfold loadCheck
  dsimp only
  split
  · exact h.next (takeCause_only _ _ _)
  · exact h.mono

theorem slackTimeoutWork_only : s.changesOnly [.link, .seq, .loop, .load, .creep, .stop]
    (slackTimeoutWork s) := by
  unfold slackTimeoutWork
  split
  · exact (withLoad_only s _).next (takeCause_only _ _ _)
  · exact .refl

theorem loadMonitorAt_only (here : CheckPoint) :
    s.changesOnly [.link, .seq, .gov, .loop, .load, .creep, .stop] (loadMonitorAt here s) := by
  unfold loadMonitorAt
  split
  · exact loadCheck_only s
  · exact (loadCheck_only s).next (slackTimeoutWork_only _)

theorem creepCheck_only : s.changesOnly causeBlocks (creepCheck s) := by
  unfold creepCheck
  split
  · exact takeCause_only s _ _
  · exact .refl

/-- The blocks the work of a length sample can change. -/
abbrev sampleBlocks : List Block := [.link, .peers, .seq, .gov, .loop, .load, .creep, .stop]

theorem checksAt_only (here load creep : CheckPoint) :
    s.changesOnly sampleBlocks (checksAt here load creep s) := by
  unfold checksAt
  dsimp only
  split <;> split
  · exact (loadMonitorAt_only s here).next (creepCheck_only _)
  · exact (creepCheck_only s).mono
  · exact (loadMonitorAt_only s here).mono
  · exact .refl

theorem cycleWork_only (load creep : CheckPoint) :
    s.changesOnly sampleBlocks (cycleWork load creep s) := by
  have h1 := (checksAt_only s .beforeSequencer load creep).next (primedWork_only _) (l := sampleBlocks)
  have h2 := h1.next (checksAt_only _ .beforeComputation load creep) (l := sampleBlocks)
  have h3 := h2.next (loopWork_only _
    ((checksAt .beforeSequencer load creep s).seq.state == .primed &&
      (primedWork (checksAt .beforeSequencer load creep s)).seq.state == .flying)) (l := sampleBlocks)
  have h4 := h3.next (checksAt_only _ .beforeCompletion load creep) (l := sampleBlocks)
  have h5 := h4.next (completionTest_only _) (l := sampleBlocks)
  have h6 := h5.next (checksAt_only _ .beforeReport load creep) (l := sampleBlocks)
  have h7 := h6.next (composeReport_only _) (l := sampleBlocks)
  exact h7.next (checksAt_only _ .afterReport load creep)

theorem lengthSampleWork_only (w : EncoderWord) (load creep : CheckPoint) :
    s.changesOnly [.link, .peers, .seq, .gov, .loop, .len, .load, .creep, .stop]
      (lengthSampleWork w load creep s) := by
  unfold lengthSampleWork
  split
  · dsimp only
    split
    · exact (completeRead_only s w).next (cycleWork_only _ _ _)
    · exact (completeRead_only s w).mono
  · exact .refl

/-! ### The strobe -/

theorem raiseIf_only (cond : Bool) (c : FaultCode) : s.changesOnly causeBlocks (raiseIf cond c s) := by
  unfold raiseIf
  split
  · exact takeCause_only s _ _
  · exact .refl

theorem localInputs_only (i : StrobeInputs) : s.changesOnly causeBlocks (localInputs i s) :=
  ((((withStop_only s _).next (raiseIf_only _ _ _) (l := causeBlocks)).next
    (raiseIf_only _ _ _) (l := causeBlocks))).next (raiseIf_only _ _ _)

theorem failBrake_only : s.changesOnly causeBlocks (failBrake s) :=
  (withLoop_only s _).next (takeCause_only _ _ _)

theorem brakeSampleWork_only (f : Feedback) : s.changesOnly causeBlocks (brakeSampleWork f s) := by
  have h := withLoop_only s { s.loop with brakeSample := f }
  unfold brakeSampleWork
  dsimp only
  split
  · split
    · exact h.next (confirmBrake_only _)
    · exact h.mono
  · split
    · exact h.mono
    · exact h.next (failBrake_only _)
  · exact h.mono
  · exact h.mono

theorem tensionSampleWork_only (x : Int) : s.changesOnly [.tens, .loader] (tensionSampleWork x s) := by
  unfold tensionSampleWork
  split
  · exact (withTens_only s _).next (withLoader_only _ _)
  · exact .refl

theorem strobeWork_only (i : StrobeInputs) (localFirst : Bool) :
    s.changesOnly [.link, .seq, .loop, .tens, .creep, .stop, .loader] (strobeWork i localFirst s) := by
  have h := tensionSampleWork_only s i.tension.toInt
  unfold strobeWork
  dsimp only
  split
  · exact (h.next (localInputs_only _ _) (l := [.link, .seq, .loop, .tens, .creep, .stop, .loader])).next
      (brakeSampleWork_only _ _)
  · exact (h.next (brakeSampleWork_only _ _) (l := [.link, .seq, .loop, .tens, .creep, .stop, .loader])).next
      (localInputs_only _ _)

/-! ### The cycle start -/

/-- The blocks a cycle start can change. -/
abbrev startBlocks : List Block := [.link, .clock, .peers, .seq, .gov, .loop, .len, .tens, .stop, .loader]

theorem latchTension_only : s.changesOnly [.tens] (latchTension s) := by
  unfold latchTension
  split
  · exact withTens_only s _
  · exact .refl

theorem tickPrime_only : s.changesOnly [.seq] (tickPrime s) := by
  unfold tickPrime
  split
  · exact withSeq_only s _
  · exact .refl

theorem tickStop_only : s.changesOnly [.stop] (tickStop s) := by
  unfold tickStop
  split
  · exact withStop_only s _
  · exact .refl

theorem tickBrake_only : s.changesOnly [.loop] (tickBrake s) := by
  unfold tickBrake
  split
  · exact withLoop_only s _
  · exact .refl

theorem tickListen_only : s.changesOnly [.loader] (tickListen s) := by
  unfold tickListen
  split
  · exact withLoader_only s _
  · exact .refl

theorem cycleStart_only : s.changesOnly startBlocks (cycleStart s) := by
  have h1 := (withLen_only s { s.len with reading := true }).next (latchTension_only _)
    (l := startBlocks)
  have h2 := h1.next (agePeers_only _) (l := startBlocks)
  have h3 := h2.next (tickPrime_only _) (l := startBlocks)
  have h4 := h3.next (tickStop_only _) (l := startBlocks)
  have h5 := h4.next (tickBrake_only _) (l := startBlocks)
  have h6 := h5.next (withGov_only _ _ : State.changesOnly _ _ (tickEnable _)) (l := startBlocks)
  exact h6.next (tickListen_only _)

theorem withdrawMark_only : s.changesOnly [.link, .clock] (withdrawMark s) := by
  unfold withdrawMark
  split
  · exact (withLink_only s _).next (withClock_only _ _)
  · exact .refl

theorem startCycle_only (count : Word16) (unsync : Bool) :
    s.changesOnly startBlocks (startCycle count unsync s) :=
  ((withdrawMark_only s).next (withClock_only _ _) (l := startBlocks)).next (cycleStart_only _)

theorem takeMark_only (carried : Word16) : s.changesOnly startBlocks (takeMark carried s) := by
  unfold takeMark
  split
  · exact startCycle_only s _ _
  · exact .refl

theorem markDueWork_only : s.changesOnly [.link, .clock, .loop, .stop, .loader] (markDueWork s) := by
  unfold markDueWork
  split
  · exact ((elapse_only s _).next (requestSlot_only _ _ _)
      (l := [.link, .clock, .loop, .stop, .loader])).next (withClock_only _ _)
  · exact .refl

theorem freeRunWork_only : s.changesOnly startBlocks (freeRunWork s) := by
  unfold freeRunWork
  split
  · exact (elapse_only s _).next (startCycle_only _ _ _)
  · exact .refl

/-! ### Start-up -/

/-- The blocks that the loader's entry to LOCKED can change. -/
abbrev lockBlocks : List Block := [.link, .clock, .seq, .loop, .stop, .loader]

theorem lockFromLoader_only (c : FaultCode) (src : Nat) (cause : LockCause) :
    s.changesOnly lockBlocks (lockFromLoader c src cause s) :=
  ((withLoader_only s _).next (withStop_only _ _) (l := lockBlocks)).next (enterLocked_only _)

theorem memoryReadStartWork_only :
    s.changesOnly [.clock, .loop, .stop, .loader] (memoryReadStartWork s) := by
  unfold memoryReadStartWork
  split
  · exact (elapse_only s _).next (withLoader_only _ _)
  · exact .refl

theorem fixedBytesWork_only (bytes : List Byte) : s.changesOnly lockBlocks (fixedBytesWork bytes s) := by
  unfold fixedBytesWork
  split
  · split
    · exact (withLoader_only s _).next (lockFromLoader_only _ _ _ _)
    · exact (withLoader_only s _).mono
  · exact .refl

theorem imageReadWork_only (bytes : List Byte) : s.changesOnly [.loader] (imageReadWork bytes s) := by
  unfold imageReadWork
  split
  · exact withLoader_only s _
  · exact .refl

theorem loadImage_only (img : List Byte) :
    s.changesOnly [.peers, .path, .tens, .loader, .params] (loadImage img s) := by
  intro b hb; cases b <;> first | rfl | simp at hb

theorem imageCheckWork_only :
    s.changesOnly [.link, .clock, .peers, .path, .seq, .loop, .tens, .stop, .loader, .params]
      (imageCheckWork s) := by
  unfold imageCheckWork
  split
  · split
    · exact (lockFromLoader_only s _ _ _).mono
    · exact (loadImage_only s _).mono
  · exact .refl

theorem settleInEndWork_only : s.changesOnly [.loader] (settleInEndWork s) := by
  unfold settleInEndWork
  split
  · exact withLoader_only s _
  · exact .refl

theorem measureEndWork_only : s.changesOnly lockBlocks (measureEndWork s) := by
  unfold measureEndWork
  split
  · dsimp only
    split
    · exact (withLoader_only s _).mono
    · exact (withLoader_only s _).next (lockFromLoader_only _ _ _ _)
  · exact .refl

theorem settleOutEndWork_only : s.changesOnly [.clock, .loader] (settleOutEndWork s) := by
  unfold settleOutEndWork
  split
  · exact (withLoader_only s _).next (withClock_only _ _)
  · exact .refl

theorem windowBrake_only : s.changesOnly [.loop, .creep] (windowBrake s) := by
  unfold windowBrake
  split
  · exact (withLoop_only s _).next (armCreep_only _)
  · exact (withLoop_only s _).mono

theorem windowCauses_only : s.changesOnly stopBlocks (windowCauses s) := by
  have h : s.changesOnly stopBlocks
      (if s.len.lastResult = .failed then intake .encoder s.own s else s) := by
    split
    · exact intake_only s _ _
    · exact .refl
  unfold windowCauses
  dsimp only
  split
  · exact h.next (intake_only _ _ _)
  · exact h

theorem listenWindowEndWork_only :
    s.changesOnly [.seq, .loop, .creep, .stop, .loader] (listenWindowEndWork s) := by
  unfold listenWindowEndWork
  split
  · exact (((withLoader_only s _).next (withSeq_only _ _) (l := [.seq, .loader])).next
      (windowBrake_only _) (l := [.seq, .loop, .creep, .stop, .loader])).next (windowCauses_only _)
  · exact .refl

/-! ### The arrivals -/

theorem raiseAll_only (c : FaultCode) (ms : List Nat) :
    s.changesOnly causeBlocks (ms.foldl (fun t n => takeCause c n t) s) := by
  induction ms generalizing s with
  | nil => exact .refl
  | cons n ms ih => exact (takeCause_only s c n).next (ih _)

/-- The blocks the arrivals can change. -/
abbrev arrivalBlocks : List Block :=
  [.link, .clock, .peers, .seq, .gov, .loop, .load, .creep, .stop, .loader]

theorem lostMemberWork_only : s.changesOnly [.link, .peers, .seq, .loop, .creep, .stop]
    (lostMemberWork s) := (withPeers_only s _).next (raiseAll_only _ _ _)

theorem primeTimeoutWork_only : s.changesOnly [.seq, .gov, .loop, .creep] (primeTimeoutWork s) := by
  unfold primeTimeoutWork
  split
  · exact (refuse_only s _).next (enterParking_only _)
  · exact .refl

theorem stopOvertimeWork_only : s.changesOnly causeBlocks (stopOvertimeWork s) := by
  unfold stopOvertimeWork
  split
  · exact takeCause_only s _ _
  · exact .refl

theorem brakeExpiryWork_only : s.changesOnly causeBlocks (brakeExpiryWork s) := by
  unfold brakeExpiryWork
  split
  · exact failBrake_only s
  · exact .refl

theorem recomputeEnable_only : s.changesOnly [.gov] (recomputeEnable s) := withGov_only s _

theorem settle_only : s.changesOnly arrivalBlocks (settle s) := by
  have h1 := (recomputePeerStale_only s).next (lostMemberWork_only _) (l := arrivalBlocks)
  have h2 := h1.next (primeTimeoutWork_only _) (l := arrivalBlocks)
  have h3 := h2.next (stopOvertimeWork_only _) (l := arrivalBlocks)
  have h4 := h3.next (brakeExpiryWork_only _) (l := arrivalBlocks)
  have h5 := h4.next (recomputeEnable_only _) (l := arrivalBlocks)
  have h6 := h5.next (listenWindowEndWork_only _) (l := arrivalBlocks)
  have h7 := h6.next (slackTimeoutWork_only _) (l := arrivalBlocks)
  have h8 := h7.next (settleInEndWork_only _) (l := arrivalBlocks)
  have h9 := h8.next (measureEndWork_only _) (l := arrivalBlocks)
  exact h9.next (settleOutEndWork_only _)

/-! ### Received frames and the ends of an attempt -/

theorem takeRate_only (g r : Nat) : s.changesOnly [.gov] (takeRate g r s) := by
  unfold takeRate
  split
  · exact (withGov_only s _).next (recomputeEnable_only _)
  · exact .refl

theorem takeStopFrame_only (n g : Nat) : s.changesOnly causeBlocks (takeStopFrame n g s) := by
  unfold takeStopFrame
  split
  · exact takeCause_only s _ _
  · exact .refl

theorem acceptClear_only : s.changesOnly stopBlocks (acceptClear s) := by
  have h : s.changesOnly stopBlocks (if s.stop.assist then endAssistRequest s else s) := by
    split
    · exact (endAssistRequest_only s).mono
    · exact .refl
  unfold acceptClear
  refine h.next (l₂ := stopBlocks) ?_
  refine State.changesOnly.next (l₁ := stopBlocks) ?_ (armCreep_only _)
  intro b hb; cases b <;> first | rfl | simp at hb

theorem takeClear_only (g n : Nat) : s.changesOnly stopBlocks (takeClear g n s) := by
  unfold takeClear
  split
  · split
    · exact (refuse_only s _).mono
    · exact acceptClear_only s
  · exact .refl

/-- The blocks the delivery of a received frame can change. -/
abbrev frameBlocks : List Block :=
  [.link, .clock, .peers, .seq, .gov, .loop, .len, .tens, .creep, .stop, .loader]

theorem deliver_only (kind sender : BitVec 4) (body : List Byte) :
    s.changesOnly frameBlocks (deliver kind sender body s) := by
  unfold deliver
  split
  · exact (takeMark_only s _).mono
  split
  · exact (takeReport_only s _ _).mono
  split
  · exact (takeGo_only s _ _).mono
  split
  · exact (takeRate_only s _ _).mono
  split
  · exact (takeStopFrame_only s _ _).mono
  split
  · exact (takeClear_only s _ _).mono
  · exact .refl

theorem endReception_only : s.changesOnly [.link] (endReception s) := withLink_only s _

theorem acceptReceived_only (kind sender : BitVec 4) (body : List Byte) :
    s.changesOnly frameBlocks (acceptReceived kind sender body s) := by
  unfold acceptReceived
  split
  · exact (takeDuplicate_only s).mono
  · split
    · exact deliver_only s _ _ _
    · exact .refl

theorem receiveFrame_only (kind sender : BitVec 4) (body : List Byte) :
    s.changesOnly frameBlocks (receiveFrame kind sender body s) := by
  unfold receiveFrame
  split
  · split
    · exact (endReception_only s).next (acceptReceived_only _ _ _ _)
    · exact (endReception_only s).mono
  · exact .refl

theorem endAttempt_only (k : SlotKind) (x : Slot) : s.changesOnly [.link] (endAttempt k x s) :=
  withLink_only s _

theorem reportStopEmpty_only (k : SlotKind) (x : Slot) :
    s.changesOnly [.link, .clock, .seq, .loop, .stop] (reportStopEmpty k x s) := by
  unfold reportStopEmpty
  split
  · exact enterLocked_only s
  · exact .refl

theorem arbitrationLossWork_only : s.changesOnly [.link] (arbitrationLossWork s) := by
  unfold arbitrationLossWork
  split
  · exact .refl
  · exact endAttempt_only s _ _

theorem transmitErrorWork_only :
    s.changesOnly [.link, .clock, .seq, .loop, .creep, .stop] (transmitErrorWork s) := by
  unfold transmitErrorWork
  split
  · exact .refl
  · dsimp only
    refine State.changesOnly.next (l₁ := causeBlocks) ?_ (reportStopEmpty_only _ _ _)
    split
    · exact (endAttempt_only s _ _).next (takeCause_only _ _ _)
    · exact (endAttempt_only s _ _).mono

theorem acceptOwn_only (chars : List Byte) : s.changesOnly startBlocks (acceptOwn chars s) := by
  unfold acceptOwn
  split
  · split
    · exact takeMark_only s _
    · exact .refl
  · exact .refl

theorem frameSentWork_only : s.changesOnly startBlocks (frameSentWork s) := by
  unfold frameSentWork
  split
  · exact .refl
  · exact (((endAttempt_only s _ _).next (endReception_only _) (l := startBlocks)).next
      (reportStopEmpty_only _ _ _) (l := startBlocks)).next (acceptOwn_only _ _)

theorem lineIdleWork_only : s.changesOnly [.link] (lineIdleWork s) := by
  unfold lineIdleWork
  split
  · exact .refl
  · exact withLink_only s _

theorem lineBusyWork_only : s.changesOnly [.link] (lineBusyWork s) := by
  unfold lineBusyWork
  split
  · exact withLink_only s _
  · exact .refl

theorem frameDiscardWork_only (why : DiscardCause) : s.changesOnly [.link] (frameDiscardWork why s) := by
  unfold frameDiscardWork
  split
  · cases why
    · exact endReception_only s
    · exact endReception_only s
    · exact lineIdleWork_only s
    · exact endReception_only s
  · exact .refl

end Sys2Proof.Machine
end

