-- ==== Sys2Proof/Laws/Effects.lean ====
section
/-!
SUPPORT. What each shared operation does, case by case, said once: the lemmas to cite instead of
unfolding the operation.
-/

namespace Sys2Proof.Machine

set_option Elab.async false

variable {s : State}

/-! ### Commands -/

theorem external_eq (f : State → State) (s : State) :
    external f s = .next (beginAttempt (f (settle s))) := rfl

theorem arrival_eq (f : State → State) (s : State) : arrival f s = .next (beginAttempt (f s)) := rfl

theorem step_of_pending {c : Instr} {rest : List Instr} (h : s.pending = c :: rest) :
    step s = exec c (s.withPending rest) := by
  unfold step takeCommand; rw [h]

/-! ### The arrivals -/

theorem recomputePeerStale_same (h : s.gov.holds.peerStale = s.memberStale) :
    recomputePeerStale s = s := by
  unfold recomputePeerStale; rw [← h]; rfl

theorem recomputeEnable_same
    (h : s.gov.holds.enable = decide (s.params.enableLimit ≤ s.gov.enableAge)) :
    recomputeEnable s = s := by
  unfold recomputeEnable; rw [← h]; rfl

theorem lostMemberWork_none (h : s.peers.lostDue = []) : lostMemberWork s = s := by
  unfold lostMemberWork; rw [h, List.foldl_nil, ← h]; rfl

theorem primeTimeoutWork_notDue
    (h : ¬ (s.seq.state = .primed ∧ s.params.primeLimit ≤ s.seq.primeTimer)) :
    primeTimeoutWork s = s := if_neg h

theorem stopOvertimeWork_notDue
    (h : ¬ (s.seq.state = .stopping ∧ s.params.stopLimit ≤ s.stop.stopTimer)) :
    stopOvertimeWork s = s := if_neg h

theorem brakeExpiryWork_notDue
    (h : ¬ (s.loop.supervision = .waiting ∧ s.params.brakeTime ≤ s.loop.supTimer)) :
    brakeExpiryWork s = s := if_neg h

theorem listenWindowEndWork_notDue (h : s.windowOver = false) : listenWindowEndWork s = s := by
  unfold listenWindowEndWork; rw [h]; rfl

theorem slackTimeoutWork_notDue (h : s.load.slackDue = false) : slackTimeoutWork s = s := by
  unfold slackTimeoutWork; rw [h]; rfl

theorem settleInEndWork_notDue (h : s.shuntPhaseOver .settleIn = false) : settleInEndWork s = s := by
  unfold settleInEndWork; rw [h]; rfl

theorem measureEndWork_notDue (h : s.shuntPhaseOver .measure = false) : measureEndWork s = s := by
  unfold measureEndWork; rw [h]; rfl

theorem settleOutEndWork_notDue (h : s.shuntPhaseOver .settleOut = false) :
    settleOutEndWork s = s := by
  unfold settleOutEndWork; rw [h]; rfl

/-- With no arrival due, settling the arrivals changes nothing. -/
theorem settle_of_quiet (h : s.quiet = true) : settle s = s := by
  simp only [State.quiet, Bool.and_eq_true, Bool.not_eq_true', beq_iff_eq, List.isEmpty_iff,
    Bool.and_eq_false_imp, decide_eq_false_iff_not] at h
  obtain ⟨⟨⟨⟨⟨⟨⟨⟨⟨⟨h1, h2⟩, h3⟩, h4⟩, h5⟩, h6⟩, h7⟩, h8⟩, h9⟩, h10⟩, h11⟩ := h
  unfold settle
  rw [recomputePeerStale_same h1, lostMemberWork_none h2,
    primeTimeoutWork_notDue fun h => h3 h.1 h.2, stopOvertimeWork_notDue fun h => h4 h.1 h.2,
    brakeExpiryWork_notDue fun h => h5 h.1 h.2, recomputeEnable_same h6,
    listenWindowEndWork_notDue h7, slackTimeoutWork_notDue h8, settleInEndWork_notDue h9,
    measureEndWork_notDue h10, settleOutEndWork_notDue h11]

/-- A command from outside, with no arrival due. -/
theorem external_of_quiet (f : State → State) (h : s.quiet = true) :
    external f s = .next (beginAttempt (f s)) := by
  rw [external_eq, settle_of_quiet h]

/-! ### The start of an attempt -/

theorem beginAttempt_none (h : s.mayAttempt = false) : beginAttempt s = s := by
  unfold beginAttempt; rw [h]; rfl

theorem beginAttempt_empty (h : s.link.nextPending = none) : beginAttempt s = s := by
  unfold beginAttempt; rw [h]; split <;> rfl

theorem beginAttempt_some {k : SlotKind} (hm : s.mayAttempt = true) (hk : s.link.nextPending = some k) :
    beginAttempt s = s.withLink (s.attemptOn k) := by
  unfold beginAttempt; rw [hm, hk]; rfl

theorem beginAttempt_busy (h : s.link.line = .busy) : beginAttempt s = s :=
  beginAttempt_none (by simp [State.mayAttempt, h])

/-! ### The brake -/

theorem commandBrake_same {c : BrakeCommand} (h : s.loop.brake = c) : commandBrake c s = s :=
  if_pos h

theorem commandBrake_idle {c : BrakeCommand} (h : s.loop.brake ≠ c)
    (ho : s.seq.state.operating = false) : commandBrake c s = s.withLoop { s.loop with brake := c } := by
  unfold commandBrake
  rw [if_neg h]
  simp [ho]

/-- A changed command in operation: the supervision waits on it from timer 0, and confirms the brake at
once if the last sample matches (R113). -/
theorem commandBrake_change {c : BrakeCommand} (h : s.loop.brake ≠ c)
    (ho : s.seq.state.operating = true) :
    commandBrake c s =
      if feedbackMatches c s.loop.brakeSample then
        confirmBrake (s.withLoop { s.loop with brake := c, supervision := .waiting, supTimer := 0 })
      else s.withLoop { s.loop with brake := c, supervision := .waiting, supTimer := 0 } := by
  unfold commandBrake
  rw [if_neg h]
  simp only [ho, if_true]
  rfl

theorem confirmBrake_release (h : s.loop.brake = .release) :
    confirmBrake s = s.withLoop { s.loop with supervision := .matched } := by
  unfold confirmBrake; rw [h]

theorem confirmBrake_set (h : s.loop.brake = .set) :
    confirmBrake s = brakeSetConfirmed (s.withLoop { s.loop with supervision := .matched }) := by
  unfold confirmBrake; rw [h]

/-- After a brake command, the command stands. -/
theorem commandBrake_brake (c : BrakeCommand) (s : State) : (commandBrake c s).loop.brake = c := by
  by_cases h : s.loop.brake = c
  · rw [commandBrake_same h, h]
  · cases ho : s.seq.state.operating
    · rw [commandBrake_idle h ho]; rfl
    · rw [commandBrake_change h ho]
      split
      · cases c
        · rw [confirmBrake_set rfl]
          unfold brakeSetConfirmed
          split <;> (try split) <;> rfl
        · rw [confirmBrake_release rfl]; rfl
      · rfl

/-! ### Taking a cause -/

theorem takeCause_idle (c : FaultCode) (src : Nat) (h : s.seq.state.operating = false) :
    takeCause c src s = s := by
  unfold takeCause; rw [h]; rfl

theorem takeCause_unsent {c : FaultCode} (src : Nat) (h : s.seq.state.operating = true)
    (hc : c.sent = false) : takeCause c src s = intake c src s := by
  unfold takeCause; rw [h, hc]; rfl

theorem takeCause_sent {c : FaultCode} (src : Nat) (h : s.seq.state.operating = true)
    (hc : c.sent = true) :
    takeCause c src s =
      if changesCategory c.category s then
        requestSlot .stop (stopBody s.ownGroup c.code s.own) (intake c src s)
      else intake c src s := by
  unfold takeCause; rw [h, hc]; rfl

/-- Causes that do not change the stop: a controlled cause in STOPPING, and in STOPPED a cause that
Table 9-4 only records. -/
theorem intake_recorded {c : FaultCode} (src : Nat)
    (h : applyStop c.category (s.withStop (s.stop.record c src)) = s.withStop (s.stop.record c src)) :
    intake c src s = s.withStop (s.stop.record c src) := h

theorem record_opens {x : StopController} (h : x.first = none) (c : FaultCode) (src : Nat) :
    x.record c src = { x with first := some (c, src) } := by
  unfold StopController.record; rw [h]

theorem record_adds {x : StopController} {p : FaultCode × Nat} (h : x.first = some p)
    (c : FaultCode) (src : Nat) : x.record c src = { x with later := addLater x.later c } := by
  unfold StopController.record; rw [h]

/-! ### Received frames -/

theorem receiveFrame_ignored (kind sender : BitVec 4) (body : List Byte)
    (h : s.link.assembling = false) : receiveFrame kind sender body s = s := by
  unfold receiveFrame; rw [h]; rfl

theorem receiveFrame_long (kind sender : BitVec 4) {body : List Byte}
    (h : s.link.assembling = true) (hb : bodyFits body = false) :
    receiveFrame kind sender body s = endReception s := by
  unfold receiveFrame; rw [h, hb]; rfl

theorem receiveFrame_accepted (kind sender : BitVec 4) {body : List Byte}
    (h : s.link.assembling = true) (hb : bodyFits body = true) :
    receiveFrame kind sender body s = acceptReceived kind sender body (endReception s) := by
  unfold receiveFrame; rw [h, hb]; rfl

/-! ### The line -/

theorem lineIdleWork_attempting (h : s.link.attempting.isSome = true) : lineIdleWork s = s := if_pos h

theorem lineIdleWork_free (h : s.link.attempting = none) :
    lineIdleWork s = s.withLink { s.link with line := .idle, assembling := false } := by
  unfold lineIdleWork; rw [h]; rfl

theorem frameDiscardWork_none (why : DiscardCause) (h : s.link.assembling = false) :
    frameDiscardWork why s = s := by
  unfold frameDiscardWork; rw [h]; rfl

theorem frameDiscardWork_earlyIdle (h : s.link.assembling = true) :
    frameDiscardWork .earlyIdle s = lineIdleWork s := if_pos h

theorem frameDiscardWork_busy {why : DiscardCause} (h : s.link.assembling = true) (hw : why ≠ .earlyIdle) :
    frameDiscardWork why s = endReception s := by
  cases why
  · exact if_pos h
  · exact if_pos h
  · exact absurd rfl hw
  · exact if_pos h

/-! ### The Load Monitor in a length sample -/

theorem loadMonitorAt_end : loadMonitorAt .afterReport s = loadCheck s := rfl

theorem loadMonitorAt_inside {here : CheckPoint} (h : here ≠ .afterReport) :
    loadMonitorAt here s = slackTimeoutWork (loadCheck s) := if_neg h

theorem slackTimeoutWork_due (h : s.load.slackDue = true) :
    slackTimeoutWork s = takeCause .slackTimeout s.own (s.withLoad { s.load with slackDue := false }) :=
  if_pos h

end Sys2Proof.Machine
end

