-- ==== Sys2Proof/Tests/Slice0.lean ====
section
/-!
SUPPORT. Tests of the model against the spec's own worked figures, the ill-formed commands that WellFormed
refuses, and a witness for the hypotheses of each statement in Certificates/Slice0/Obligations.lean.
-/

namespace Sys2Proof.Tests

open Sys2Proof.Machine

set_option Elab.async false
set_option maxRecDepth 100000

/-- The state after a command; the state before it where the command does not answer one. -/
def after (s : State) (c : Instr) : State :=
  match exec c s with
  | .next t => t
  | .fault _ => s
  | .refused _ => s

/-! ### The station of the worked examples

Station 3 of spec 4.7 and 6.8: group 2 with members 5 and 9, station 11 of group 4, console 0. -/

/-- The roster: console 0, winches 3, 5 and 9 of group 2, winch 11 of group 4. -/
def roster : List Byte :=
  [0x20#8, 0#8, 0#8, 0x12#8, 0#8, 0x12#8, 0#8, 0#8, 0#8, 0x12#8, 0#8, 0x14#8, 0#8, 0#8, 0#8, 0#8]

/-- The image values of the examples (spec 6.8, 7.8, 8.1 to 8.3, 8.5). -/
def params : Params where
  station := 3
  lostLimit := 6
  enableLimit := 5
  brakeTime := 25
  slackLimit := 12
  primeLimit := 100
  stopLimit := 200
  leadW := 256
  rampA := 8
  stopA := 16
  followTol := 50
  tripTol := 400
  startTol := 200
  kp := 3000
  shiftS := 10
  vMax := 4000
  dirNegative := true
  tMax := 900
  tSlack := 150
  gLo := 1200
  gHi := 1650
  m := 3
  tOffset := -150
  gain := 1750
  shuntRef := 2900
  shuntTol := 60
  lZero := 150000
  kScale := 20000
  creepLimit := 30
  roster := roster

/-- Cue 6 with five segments, segment 2 of them EASE from 120,000 to 95,000 in 500 cycles (spec 7.8), and the entry
(cue 6, group 4, any cue) of spec 4.7. -/
def path : PathStore where
  directory := (List.range 32).map fun c => if c = 6 then some { n := 5, f := 0, l0 := 109000 } else none
  segments := [
    { t := 400, profile := .linear, lb := 130000 }, { t := 400, profile := .linear, lb := 120000 },
    { t := 500, profile := .ease, lb := 95000 }, { t := 300, profile := .linear, lb := 95000 },
    { t := 100, profile := .linear, lb := 90000 }]
  exclusions := [{ ownCue := 6, otherGroup := 4, otherCue := 255 }]
  fingerprint := 0xBEEF#16

/-- A stored REPORT that shows a state, a cue, a progress and a tension. -/
def report (state cue : Byte) (achieved : BitVec 24) (tension : BitVec 16) : Report where
  cycleCount := 300#16
  stateCode := state
  cue := cue
  achieved := achieved
  length := 0#24
  tension := tension
  holds := 0#8
  flags := 0#8
  firstFault := 0#8
  faultSource := 0xFF#8
  laterFaults := 0#24
  refusal := 0#8
  fingerprint := 0xBEEF#16

/-- Station 3 in FLYING before the length sample of cycle 301 (spec 4.7, 6.8, 7.8). -/
def flight : State where
  link := { line := .busy, assembling := true }
  clock := { count := 301#16, timer := 100, unsync := false, running := true }
  peers := { rows := [
    { station := 3, group := 2, age := 0, report := some (report 3#8 6#8 161072#24 490#16) },
    { station := 5, group := 2, age := 1, report := some (report 3#8 6#8 161000#24 470#16) },
    { station := 9, group := 2, age := 1, report := some (report 3#8 6#8 161100#24 455#16) },
    { station := 11, group := 4, age := 1, report := some (report 1#8 255#8 0#24 0#16) }] }
  path := path
  seq := { state := .flying }
  gov := {
    cue := 6, q := 161072, k := 2, dPrev := 125, achieved := 161072, rate := 128, enableAge := 1
    holds := { enable := false, peerStale := false, slack := false, loadBand := false } }
  loop := {
    target := 109081, prevTarget := 109081, duty := 403, speed := -850, drive := true, brake := .release
    supervision := .matched, brakeSample := .released, pwmDuty := 403 }
  len := { measured := 109150, reading := true }
  tens := { line := [1200, 1210, 1195, 1205, 1190, 1215, 1200, 1205], sum := 9620, latched := 490
            started := true, requested := true }
  loader := { progress := .done, waitClk := 25000, shuntPhase := .settleOut, shuntCount := 64 }
  params := params

/-- The same station in READY on its set brake, with a start length of 109,000 within reach. -/
def ready : State := { flight with
  seq := { state := .ready }
  gov := { flight.gov with dPrev := 0 }
  loop := {
    target := 109081, prevTarget := 109081, brake := .set, supervision := .matched, brakeSample := .set }
  len := { measured := 109200, reading := true }
  creep := { reference := 109040, armed := true }
  peers := { rows := flight.peers.rows.map fun r =>
    { r with report := some (report 1#8 255#8 0#24 470#16) } } }

/-- The same station in PRIMED, its brake released and its members PRIMED on the cue. -/
def primed : State := { flight with
  seq := { state := .primed, primeTimer := 17 }
  gov := { flight.gov with q := 0, k := 0, dPrev := 0, achieved := 0 }
  loop := { flight.loop with target := 109000, prevTarget := 109000, duty := 512, speed := 0 }
  peers := { rows := flight.peers.rows.map fun r =>
    { r with report := some (report (if r.group = 2 then 2#8 else 1#8) 6#8 0#24 470#16) } } }

/-- The same station in PARKING at the end of the cue, waiting for its brake. -/
def parking : State := { flight with
  seq := { state := .parking, complete := true }
  gov := { flight.gov with q := 327680, k := 4, dPrev := 0, achieved := 327680 }
  loop := { flight.loop with brake := .set, supervision := .waiting, supTimer := 3 } }

/-- The same station in a controlled STOPPING, its record opened by a console's STOP. -/
def stopping : State := { flight with
  seq := { state := .stopping }
  stop := { first := some (.consoleStop, 0), category := .controlled, stopTimer := 3 } }

/-- The same station in STOPPED after the controlled stop, at rest on its brake. -/
def stopped : State := { ready with
  seq := { state := .stopped }
  stop := { first := some (.consoleStop, 0), category := .controlled, phase := .settling } }

/-- The same station held by its drive. -/
def assisted : State := { stopped with
  loop := { stopped.loop with drive := true, supervision := .failed, brakeSample := .released }
  stop := { first := some (.brakeNotSet, 3), category := .assist, assist := true } }

/-- The same station in STOPPED after a duplicate, its all-group STOP on the line. -/
def telling : State := { stopped with
  stop := {
    first := some (.duplicateStation, 3), category := .immediate, lockPending := true
    lockCause := .duplicateStation }
  link := {
    stopSlot := { st := .inAttempt, body := [0#8, 16#8, 3#8] }, line := .busy
    txFrame := buildFrame kindStop 3#4 [0#8, 16#8, 3#8] } }

/-- The same station locked by a duplicate. -/
def locked : State := { ready with
  seq := { state := .locked }
  loop := { ready.loop with supervision := .idle }
  stop := {
    first := some (.duplicateStation, 3), category := .immediate, lockCause := .duplicateStation } }

/-- A station in START with the loader at some progress. -/
def starting (l : ImageLoader) : State := { ready with
  seq := { state := .start }
  loop := { ready.loop with supervision := .idle }
  gov := { ready.gov with cue := 255, q := 0, k := 0, achieved := 0 }
  creep := {}
  link := { line := .busy }
  loader := l }

/-- The listen window. -/
def listening (count : Nat) : State := starting { progress := .listen, listenCounter := count }

/-! ### The commands that WellFormed refuses -/

theorem test_wf_fixed_bytes : (Instr.fixedBytesRead (List.replicate 332 0#8)).wf = false := by decide
theorem test_wf_image_rest_short : (Instr.imageReadComplete [0#8]).wf = false := by decide
theorem test_wf_image_rest_partial : (Instr.imageReadComplete (List.replicate 7 0#8)).wf = false := by decide
theorem test_wf_image_rest_long :
    (Instr.imageReadComplete (List.replicate 1544 0#8)).wf = false := by decide +kernel
theorem test_wf_mark_body : (Instr.markFrame 0 0#4 (List.replicate 25 0#8)).wf = false := by decide
theorem test_wf_report_body : (Instr.reportFrame 0#4 (List.replicate 25 0#8)).wf = false := by decide
theorem test_wf_go_body : (Instr.goFrame 0#4 (List.replicate 25 0#8)).wf = false := by decide
theorem test_wf_rate_body : (Instr.rateFrame 0#4 (List.replicate 25 0#8)).wf = false := by decide
theorem test_wf_stop_body : (Instr.stopFrame 0#4 (List.replicate 25 0#8)).wf = false := by decide
theorem test_wf_clear_body : (Instr.clearFrame 0#4 (List.replicate 25 0#8)).wf = false := by decide
theorem test_wf_unassigned_body :
    (Instr.unassignedKindFrame 9#4 0#4 (List.replicate 25 0#8)).wf = false := by decide
theorem test_wf_unassigned_kind : (Instr.unassignedKindFrame 8#4 0#4 []).wf = false := by decide
theorem test_wf_good : (Instr.reportFrame 0#4 (List.replicate 24 0#8)).wf = true ∧
    (Instr.imageReadComplete (List.replicate 8 0#8)).wf = true ∧
    (Instr.unassignedKindFrame 15#4 0#4 []).wf = true := by decide

/-! ### The spec's figures -/

/-- R27: the CRC of "123456789". -/
theorem test_crc_check_value :
    crc16 [0x31#8, 0x32#8, 0x33#8, 0x34#8, 0x35#8, 0x36#8, 0x37#8, 0x38#8, 0x39#8] = 0x29B1#16 := by
  decide +kernel

/-- Table 11-4: the REPORT of station 3, header, length and body. -/
theorem test_report_bytes :
    (buildFrame kindReport 3#4 (Report.toBytes { report 3#8 6#8 161203#24 490#16 with
      cycleCount := 301#16, length := 109040#24 })).take 22 =
    [0x83#8, 0x16#8, 0x01#8, 0x2D#8, 0x03#8, 0x06#8, 0x02#8, 0x75#8, 0xB3#8, 0x01#8, 0xA9#8, 0xF0#8,
      0x01#8, 0xEA#8, 0x00#8, 0x00#8, 0x00#8, 0xFF#8, 0x00#8, 0x00#8, 0x00#8, 0x00#8] := by
  decide +kernel

/-- Table 7-2: the EASE share. -/
theorem test_ease_share : [0, 16384, 32768, 49152, 65535].map (share .ease) =
    [0, 10240, 32768, 55296, 65536] := by decide +kernel

/-- Table 7-4: the duty. -/
theorem test_duty : [-4000, -850, 0, 850, 4000].map (pwmDutyOf 4000) = [1, 403, 512, 621, 1023] := by
  decide +kernel

/-- Table 8-2 and the out-of-range count of spec 8.1: words judged and converted. -/
theorem test_encoder_words :
    params.judgeWord (BitVec.ofNat 26 (134217 * 4)) = .good 109040 ∧
      params.judgeWord (BitVec.ofNat 26 (134217 * 4 + 1)) = .failed ∧
      params.judgeWord (BitVec.ofNat 26 (134385 * 4)) = .good 108989 ∧
      params.judgeWord (BitVec.ofNat 26 (491522 * 4 + 1)) = .outOfRange := by decide +kernel

/-- The two latches of spec 8.2. -/
theorem test_tension_latches : tensionOf params 9620 = 450 ∧ tensionOf params 10385 = 490 := by
  decide +kernel

/-- The shunt check of spec 8.5: the result 2,900. -/
theorem test_shunt_result :
    (starting { progress := .shunt, shuntPhase := .measure, shuntCount := 32, shuntSum := 97630 }).shuntResult
      = 2900 := by decide +kernel

/-- Table 6-5 at another rate (Table 6-6): the ramp holds the advance to 133. -/
theorem test_rate_192 :
    ({ flight with gov := { flight.gov with rate := 192 } } : State).newProgress false = 161205 := by
  decide +kernel

/-- Table 6-8: the group's cap cuts the advance to 40. -/
theorem test_group_cap :
    ({ flight with peers := { rows := flight.peers.rows.map fun r =>
      if r.station = 5 then { r with report := some (report 3#8 6#8 160856#24 470#16) } else r } } : State).newProgress
        false = 161112 := by decide +kernel

/-- Table 6-9: the boundary takes the excess and segment 3 is current. -/
theorem test_boundary :
    let s : State := moveProgress false { flight with
      gov := { flight.gov with q := 196572, dPrev := 131, achieved := 196572 }
      peers := {} }
    s.gov.q = 196608 ∧ s.gov.dPrev = 36 ∧ s.gov.k = 3 := by decide +kernel

/-! ### One step of each command -/

theorem test_reset : after flight .reset = State.reset := by decide +kernel

theorem test_memory_read_start :
    (after (starting { progress := .wait }) .memoryReadStart).loader.mdo = [3#8, 0#8, 0#8, 0#8] := by
  decide +kernel

/-- R160: a segment count above 256 fails the image. -/
theorem test_fixed_bytes_count :
    (after (starting { progress := .read })
      (.fixedBytesRead (List.replicate 331 0#8 ++ [1#8, 1#8]))).stop.first = some (.image, 255) := by
  decide +kernel

theorem test_image_read_complete :
    (after (starting { progress := .read, buffer := List.replicate 333 0#8 })
      (.imageReadComplete [0#8, 0#8])).loader.progress = .check := by decide +kernel

theorem test_image_check_fails :
    (after (starting { progress := .check, buffer := List.replicate 335 0#8 })
      .imageCheckComplete).seq.state = .locked := by decide +kernel

/-- R127: Table 8-3, first strobe. -/
theorem test_strobe_sum :
    (after flight (.strobe 500 { tension := 1230#16, brkfb := .released, lstop := false, dflt := false }
      false)).tens.sum = 9650 := by decide +kernel

/-- R116, R146: a brake that lifts in STOPPED is held by the drive. -/
theorem test_strobe_brake_lifts :
    let t := after stopped
      (.strobe 500 { tension := 1230#16, brkfb := .released, lstop := false, dflt := false } false)
    t.stop.category = .assist ∧ t.loop.drive = true := by decide +kernel

theorem test_settle_in_end :
    (after (starting { progress := .shunt, shuntPhase := .settleIn, shuntCount := 64 })
      .settleInEnd).loader.shuntPhase = .measure := by decide +kernel

/-- The open cell of spec 8.5 locks the station. -/
theorem test_measure_end_fails :
    (after (starting { progress := .shunt, shuntPhase := .measure, shuntCount := 32, shunt := true })
      .measureEnd).stop.lockCause = .selfCheck := by decide +kernel

theorem test_settle_out_end :
    (after (starting { progress := .shunt, shuntPhase := .settleOut, shuntCount := 64 })
      .settleOutEnd).clock.timer = 3000 := by decide +kernel

theorem test_listen_window_end : (after (listening 64) .listenWindowEnd).seq.state = .ready := by
  decide +kernel

/-- R44: station 3 requests its MARK at 4060 microseconds. -/
theorem test_mark_due : (after flight .markDue).clock.timer = 4060 := by decide +kernel

theorem test_free_running : (after flight .freeRunningCycleStart).clock.count = 302#16 := by
  decide +kernel

/-- Table 4-5: the row of station 9 is STALE at age 3. -/
theorem test_peer_stale :
    (after { flight with peers := { rows := flight.peers.rows.map fun r => { r with age := 3 } } }
      .peerStale).gov.holds.peerStale = true := by decide +kernel

theorem test_lost_member :
    (after { flight with peers := { flight.peers with lostDue := [9] } } .lostMember).stop.first =
      some (.lostMember, 9) := by decide +kernel

theorem test_enable_expiry :
    (after { flight with gov := { flight.gov with enableAge := 5 } } .enableExpiry).gov.holds.enable = true := by
  decide +kernel

theorem test_prime_timeout :
    (after { primed with seq := { primed.seq with primeTimer := 100 } } .primeTimeout).seq.refusal =
      .primeTimeout := by decide +kernel

theorem test_stop_overtime :
    (after { stopping with stop := { stopping.stop with stopTimer := 200 } } .stopOvertime).loop.drive = false := by
  decide +kernel

theorem test_brake_timer_expiry :
    (after { parking with loop := { parking.loop with supTimer := 25 } } .brakeTimerExpiry).stop.first =
      some (.brakeNotSet, 3) := by decide +kernel

theorem test_lstop_edge : (after flight .lstopEdge).stop.localLatch = true := by decide +kernel

theorem test_dip_active : (after flight .dipActive).dipLevel = true := by decide +kernel

theorem test_dip_inactive : (after { flight with dipLevel := true } .dipInactive).dipLevel = false := by
  decide +kernel

theorem test_fault_lamp_blink : (after locked .faultLampBlink).faultOut = false := by decide +kernel

/-- Tables 6-5, 7-6 and 7-7: the whole computation of cycle 301. -/
theorem test_length_sample_flying :
    let t := after flight (.lengthSample (BitVec.ofNat 26 (134217 * 4)) .beforeSequencer .beforeSequencer)
    (t.gov.q, t.gov.dPrev, t.gov.k, t.gov.achieved) = (161203, 131, 2, 161203) ∧
      (t.loop.target, t.loop.err, t.loop.speed, t.loop.duty) = (109006, -34, -850, 403) := by
  decide +kernel

/-- Table 11-4: the REPORT composed at the end of that sample. -/
theorem test_length_sample_report :
    (after flight (.lengthSample (BitVec.ofNat 26 (134217 * 4)) .beforeSequencer
      .beforeSequencer)).link.reportSlot.body.take 12 =
    [0x01#8, 0x2D#8, 0x03#8, 0x06#8, 0x02#8, 0x75#8, 0xB3#8, 0x01#8, 0xA9#8, 0xF0#8, 0x01#8, 0xEA#8] := by
  decide +kernel

theorem test_slack_timeout :
    (after { flight with load := { slackCounter := 12, slackDue := true } } .slackTimeout).stop.first =
      some (.slackTimeout, 3) := by decide +kernel

/-- A station in FLYING whose slack counter reaches its limit at the next length sample (R131). -/
def slackAtLimit : State := { flight with
  tens := { flight.tens with latched := 149 }, load := { slackCounter := 11 } }

/-- R62, R131: where the check comes before the REPORT, the REPORT of the same sample shows the fault. -/
theorem test_slack_timeout_inside :
    ((after slackAtLimit (.lengthSample (BitVec.ofNat 26 (134217 * 4)) .beforeCompletion
      .beforeSequencer)).link.reportSlot.body.drop 14).take 2 = [6#8, 3#8] := by decide +kernel

/-- R28: STOP goes out before REPORT. -/
theorem test_line_idle :
    (after { flight with link := { line := .busy, stopSlot := { st := .pending, body := [2#8, 5#8, 3#8] }
                                   reportSlot := { st := .pending } } } .lineIdle).link.txFrame.take 2 =
      [0x03#8, 3#8] := by decide +kernel

/-- A station whose REPORT is on the line. -/
def sending (attempts : Nat) : State := { flight with
  link := { flight.link with
    reportSlot := { st := .inAttempt, body := [7#8], attempts := attempts }
    txFrame := buildFrame kindReport 3#4 [7#8] } }

theorem test_arbitration_loss :
    (after (sending 2) .arbitrationLoss).link.reportSlot = { st := .pending, body := [7#8], attempts := 2 } := by
  decide +kernel

theorem test_transmit_error_mutes :
    (after (sending 2) .transmitError).stop.first = some (.linkMute, 3) := by decide +kernel

theorem test_frame_sent : (after (sending 2) .frameSent).link.reportSlot = {} := by decide +kernel

theorem test_frame_discard :
    let t := after flight (.frameDiscard .framing)
    t.link.assembling = false ∧ t.link.line = .busy := by decide +kernel

/-- R24, R36: an IDLE inside a frame is the line's becoming IDLE, and the next start bit begins a frame. -/
theorem test_frame_discard_early_idle :
    let t := after flight (.frameDiscard .earlyIdle)
    t.link.line = .idle ∧ t.link.assembling = false ∧ (after t .lineBusy).link.assembling = true := by
  decide +kernel

/-- R47: the count is adopted. -/
theorem test_mark_frame :
    (after flight (.markFrame 3900 9#4 [0x01#8, 0x31#8])).clock.count = 305#16 := by decide +kernel

/-- R59: a REPORT two cycles behind is not stored. -/
theorem test_report_out_of_step :
    (after flight (.reportFrame 9#4 (Report.toBytes { report 3#8 6#8 1#24 1#16 with cycleCount := 299#16 }))).peers
      = flight.peers := by decide +kernel

theorem test_go_accepted : (after ready (.goFrame 0#4 [2#8, 6#8])).seq.state = .primed := by decide +kernel

/-- R8: 201 from the start length is refused, 200 passes. -/
theorem test_go_start_position :
    (after { ready with len := { ready.len with measured := 109201 } } (.goFrame 0#4 [2#8, 6#8])).seq.refusal =
      .startPosition := by decide +kernel

theorem test_rate : (after flight (.rateFrame 0#4 [2#8, 64#8])).gov.rate = 64 := by decide +kernel

theorem test_stop_frame : (after flight (.stopFrame 5#4 [2#8, 5#8, 5#8])).stop.first = some (.groupStop, 5) := by
  decide +kernel

theorem test_clear : (after stopped (.clearFrame 0#4 [2#8, 255#8])).seq.state = .ready := by decide +kernel

theorem test_clear_blocked :
    (after assisted (.clearFrame 0#4 [2#8, 3#8])).seq.refusal = .clearBlocked := by decide +kernel

theorem test_line_busy :
    (after { flight with link := {  line := .idle } } .lineBusy).link.assembling = true := by decide +kernel

/-- R38: any kind under the own number is a duplicate. -/
theorem test_unassigned_kind_duplicate :
    (after flight (.unassignedKindFrame 9#4 3#4 [])).stop.first = some (.duplicateStation, 3) := by
  decide +kernel

theorem test_pwm_period : (after flight .pwmPeriodStart).loop.pwmPhase = 0 := by decide +kernel

/-! ### Witnesses: states and operands that meet the hypotheses of each statement, clause by clause -/

/-- Every command answers a next state. -/
theorem exec_after (c : Instr) (s : State) : exec c s = .next (after s c) := by cases c <;> rfl

theorem flight_recordEmpty : flight.recordEmpty := by unfold State.recordEmpty; decide +kernel
theorem ready_recordEmpty : ready.recordEmpty := by unfold State.recordEmpty; decide +kernel
theorem primed_recordEmpty : primed.recordEmpty := by unfold State.recordEmpty; decide +kernel
theorem flight_outputsFit : flight.outputsFit := by unfold State.outputsFit; decide +kernel
theorem ready_outputsFit : ready.outputsFit := by unfold State.outputsFit; decide +kernel
theorem primed_outputsFit : primed.outputsFit := by unfold State.outputsFit; decide +kernel
theorem stopping_outputsFit : stopping.outputsFit := by unfold State.outputsFit; decide +kernel
theorem stopped_outputsFit : stopped.outputsFit := by unfold State.outputsFit; decide +kernel
theorem parking_outputsFit : parking.outputsFit := by unfold State.outputsFit; decide +kernel
theorem assisted_outputsFit : assisted.outputsFit := by unfold State.outputsFit; decide +kernel
theorem telling_outputsFit : telling.outputsFit := by unfold State.outputsFit; decide +kernel
theorem locked_outputsFit : locked.outputsFit := by unfold State.outputsFit; decide +kernel
theorem flight_recordFits : flight.recordFits := ⟨flight_recordEmpty, by decide⟩
theorem ready_recordFits : ready.recordFits := ⟨ready_recordEmpty, by decide⟩
theorem parking_recordFits : parking.recordFits := ⟨⟨rfl, rfl, rfl, rfl⟩, by decide⟩
theorem telling_recordFits : telling.recordFits :=
  ⟨⟨rfl, by decide, by decide⟩, fun _ => ⟨rfl, rfl, rfl⟩⟩
theorem stopping_recordFits : stopping.recordFits := ⟨⟨rfl, rfl, rfl⟩, by decide⟩
theorem stopped_recordFits : stopped.recordFits := ⟨⟨rfl, by decide, by decide⟩, by decide⟩
theorem assisted_recordFits : assisted.recordFits := ⟨⟨rfl, by decide, by decide⟩, by decide⟩
theorem flight_slotsInOrder : flight.slotsInOrder := by
  unfold State.slotsInOrder Slot.inOrder; decide +kernel
theorem locked_slotsInOrder : locked.slotsInOrder := by
  unfold State.slotsInOrder Slot.inOrder; decide +kernel

theorem flight_progressInCue : flight.progressInCue := by
  refine ⟨by decide, by decide, fun c e h => ?_, by decide +kernel, fun e h => ?_, by decide⟩
  · by_cases hc : c < 32
    · interval_cases c <;> first | (cases h; decide) | cases h
    · have : flight.path.entry c = none := by
        unfold PathStore.entry
        rw [List.getD_eq_getElem?_getD, List.getElem?_eq_none (by simp [flight, path]; omega)]
        rfl
      rw [this] at h; cases h
  · cases h; decide +kernel

/-- StepTakesTheFrontCommandOrIdles: a command waiting, an arrival due, each event of the chip clock due, none due. -/
theorem witness_queue :
    let ends : State := { flight with clock := { flight.clock with timer := 6000 } }
    let marks : State := { flight with clock := { flight.clock with timer := 4060 } }
    let reads := starting { progress := .wait, waitClk := 25000 }
    (∀ s ∈ [ends, marks, reads, flight], s.pending = [] ∧ s.quiet = true) ∧
    (ends.clock.running = true ∧ 6000 ≤ ends.clock.timer) ∧
    (marks.seq.state.operating = true ∧ marks.clock.markRequested = false ∧
      4000 + 20 * marks.own ≤ marks.clock.timer ∧
      marks.clock.timer < 6000) ∧
    (reads.loader.progress = .wait ∧ 25000 ≤ reads.loader.waitClk ∧ reads.seq.state.operating = false ∧
      reads.clock.timer < 6000) ∧
    (flight.clock.timer < 4060 ∧ flight.loader.progress = .done) ∧
    (flight.withPending [.lineIdle]).pending = .lineIdle :: [] ∧ flight.pending = [] ∧
      State.reset.dueEvent = none ∧
      ({ flight with peers := { flight.peers with lostDue := [9] } } : State).dueEvent = some .lostMember := by
  decide +kernel

theorem flight_countsInRange : flight.countsInRange :=
  ⟨by decide, by decide, by decide, (fun _ h => by cases h), by decide, by decide, by decide, by decide, by decide,
    by decide, fun _ => by decide⟩

/-- EveryStepKeepsBrakeOnDrive, EveryStepKeepsOutputsFit, EveryStepKeepsRecordFits, EveryStepKeepsSlotsInOrder,
EveryStepKeepsCountsAndTotals, EveryStepKeepsProgressInCue, FirstCauseStandsUntilClearOrReset. -/
theorem witness_invariants :
    flight.brakeOnDrive ∧ flight.outputsFit ∧ flight.recordFits ∧ flight.slotsInOrder ∧
      flight.filterTotals ∧ flight.countsInRange ∧ flight.progressInCue ∧
      step (flight.withPending [.lstopEdge]) = exec .lstopEdge (flight.withPending []) ∧
      Instr.lstopEdge.wf = true ∧ stopped.stop.first.isSome = true ∧
      exec .lstopEdge stopped = .next (after stopped .lstopEdge) :=
  ⟨by unfold State.brakeOnDrive; decide +kernel, flight_outputsFit, flight_recordFits,
    flight_slotsInOrder, by unfold State.filterTotals; decide +kernel, flight_countsInRange,
    flight_progressInCue,
    rfl, rfl, rfl, exec_after _ _⟩

/-- CommandedProgressFallsOnlyAtGoOrReset. -/
theorem witness_progress_falls :
    (Instr.goFrame 0#4 [2#8, 6#8]).wf = true ∧
    exec (.goFrame 0#4 [2#8, 6#8]) ready = .next (after ready (.goFrame 0#4 [2#8, 6#8])) ∧
      (after ready (.goFrame 0#4 [2#8, 6#8])).gov.q < ready.gov.q :=
  ⟨by decide, exec_after _ _, by decide +kernel⟩

/-- LockedIsLeftOnlyAtReset. -/
theorem witness_locked :
    exec .lineIdle locked = .next (after locked .lineIdle) ∧ locked.seq.state = .locked ∧
      locked.loader.progress = .done ∧ locked.outputsFit ∧ locked.slotsInOrder :=
  ⟨exec_after _ _, rfl, rfl, locked_outputsFit, locked_slotsInOrder⟩

/-- FramesAndReportsReadBack, OneWrongByteIsDiscarded: an empty and a full body. -/
theorem witness_frames :
    ([] : List Byte).length ≤ 24 ∧ (List.replicate 24 0#8 : List Byte).length ≤ 24 ∧ (0#8 : Byte) ≠ 1#8 ∧
      (List.replicate 23 0#8 ++ 0#8 :: [] : List Byte).length ≤ 24 := by decide

/-- FingerprintIsTheCrcOfTheTiming: a library with other exclusions. -/
theorem witness_fingerprint :
    let other : PathStore := { path with exclusions := [], fingerprint := 0#16 }
    ∀ c, c < 32 → (path.entry c = none ∧ other.entry c = none) ∨
      (∃ e e', path.entry c = some e ∧ other.entry c = some e' ∧ e.n = e'.n ∧
        ∀ j, j < e.n → (path.cueSegment e j).t = (other.cueSegment e' j).t ∧
          (path.cueSegment e j).profile = (other.cueSegment e' j).profile) := by
  intro other c _
  rcases h : path.entry c with _ | e
  · exact .inl ⟨rfl, h⟩
  · exact .inr ⟨e, e, rfl, h, rfl, fun _ _ => ⟨rfl, rfl⟩⟩

/-- ShareAndLineTarget, EaseShareNeverFalls, StagesOneToFour: the ends of the ranges. -/
theorem witness_ranges :
    (65535 < 65536 ∧ 65534 ≤ 65534 ∧ 65536 ≤ 65536) ∧ (0 ≤ 65536 ∧ 1 ≤ 65535) ∧
      (2 * 65536 ≤ 196607 ∧ 196607 ≤ (2 + 1) * 65536 ∧ 65536 ≤ 196607 - 2 * 65536 + 1 ∧
        196607 - 2 * 65536 + 0 < 65536) := by decide

/-- ShareAndLineTarget: the segments of the example's cue, the first and a later one. -/
theorem witness_target :
    flight.path.entry flight.gov.cue = some { n := 5, f := 0, l0 := 109000 } ∧
      flight.path.segments[0 + 0]? = some { t := 400, profile := .linear, lb := 130000 } ∧
      flight.path.segments[0 + 2]? = some { t := 500, profile := .ease, lb := 95000 } ∧
      flight.path.segments[0 + 2 - 1]? = some { t := 400, profile := .linear, lb := 120000 } ∧
      flight.targetAt 2 161203 = 109006 := by decide +kernel

/-- SpeedCommandAndDuty: the least and the example's V_max. -/
theorem witness_speed : 1 ≤ ({ flight with params := { params with vMax := 1 } } : State).params.vMax ∧
    1 ≤ flight.params.vMax := by decide

/-- ComputationIsCappedByTheGroup: a rise, a hold, the end of the last segment. -/
theorem witness_computation :
    (flight.gov.k * 65536 ≤ flight.gov.q ∧ flight.gov.q ≤ (flight.gov.k + 1) * 65536 ∧
      flight.gov.q < flight.newProgress false) ∧
      ({ flight with gov := { flight.gov with holds := { flight.gov.holds with slack := true } } } : State).gov.holds.any
        = true ∧
      parking.gov.q = (parking.gov.k + 1) * 65536 := by decide +kernel

/-- ComputationIsCappedByTheGroup: a member in each row of Table 4-3, at the own cue of five segments. -/
theorem witness_contribution :
    let row (st cue fl : Byte) : Row := { station := 5, group := 2, report := some { report st cue 7#24 0#16 with
      flags := fl } }
    flight.path.entry flight.gov.cue = some { n := 5, f := 0, l0 := 109000 } ∧
      (flight.peers.rows.getD 1 default) ∈ flight.members ∧
      [row 2#8 6#8 0#8, row 3#8 6#8 0#8, row 4#8 6#8 0#8, row 1#8 6#8 8#8, row 1#8 6#8 0#8, row 5#8 6#8 0#8,
        row 3#8 7#8 0#8, { station := 5, group := 2 }].map flight.contribution =
      [7, 7, 7, 327680, 0, 0, 0, 0] := by decide +kernel

/-- RowsAndPresence: the limit 5, the own row and a peer row, with ages on both sides of each bound. -/
theorem witness_presence :
    let r (age : Nat) : Row := { station := 5, group := 2, age := age, report := some (report 1#8 6#8 0#24 0#16) }
    (r 2).peerPresence 5 = .fresh ∧ (r 3).peerPresence 5 = .stale ∧ (r 4).peerPresence 5 = .stale ∧
      (r 5).peerPresence 5 = .lost ∧ ({ station := 5, group := 2 } : Row).peerPresence 5 = .silent ∧
      flight.own = 3 ∧ (r 2).station ≠ flight.own := by decide

/-- ImageReadRunsToCheck, FailedImageLocks: the segment counts 256 and 257. -/
theorem witness_image_read :
    let fixed (hi lo : Byte) : List Byte := List.replicate 331 0#8 ++ [hi, lo]
    let read := starting { progress := .read }
    (starting { progress := .wait }).quiet = true ∧ read.quiet = true ∧ read.seq.state = .start ∧
      (fixed 1#8 0#8).length = 333 ∧ imageSegmentCount (fixed 1#8 0#8) ≤ 256 ∧
      256 < imageSegmentCount (fixed 1#8 1#8) ∧
      (List.replicate 8 0#8 : List Byte).length = 6 * imageSegmentCount (fixed 0#8 1#8) + 2 ∧
      (starting { progress := .check, buffer := List.replicate 335 0#8 }).loader.msel = false ∧
      firstFailedCheck (List.replicate 335 0#8) ≠ none := by decide +kernel

theorem witness_starting_record (l : ImageLoader) : (starting l).recordEmpty := ⟨rfl, rfl, rfl, rfl⟩

/-- The first bytes of a sound image, to the roster (Table 11-5), with station 2 the only winch. -/
def soundHead : List Byte := [0#8, 1#8, 2#8, 5#8, 5#8, 25#8, 12#8, 0#8, 100#8, 0#8, 200#8, 1#8, 0#8, 0#8, 0#8,
  64#8, 0#8, 0#8, 16#8, 0#8, 50#8, 1#8, 0x90#8, 0#8, 200#8, 0x0B#8, 0xB8#8, 10#8, 0x0F#8, 0xA0#8, 2#8, 3#8,
  0x84#8, 0#8, 150#8, 0#8, 0#8, 100#8, 0#8, 6#8, 0x72#8, 3#8, 0xFF#8, 0x6A#8, 6#8, 0xD6#8, 0x0B#8, 0x54#8,
  0#8, 60#8, 2#8, 0x49#8, 0xF0#8, 0x4E#8, 0x20#8, 0#8, 30#8, 0#8, 0x20#8, 0#8, 0x11#8]

/-- A sound image of 335 bytes, without a cue. -/
def soundImage : List Byte :=
  let covered := soundHead ++ List.replicate (333 - soundHead.length) 0#8
  covered ++ bytes2 (crc16 covered).toNat

/-- SoundImageIsLoaded. -/
theorem witness_sound_image :
    (starting { progress := .check, buffer := soundImage }).quiet = true ∧
      firstFailedCheck soundImage = none := by decide +kernel

/-- ShuntSpanCheckRuns: the last sample of each phase, a result at the tolerance and one past it. -/
theorem witness_shunt :
    let at32 (sum : Int) := starting { progress := .shunt, shuntPhase := .measure, shuntCount := 32, shuntSum := sum }
    (at32 (32 * 3110)).shuntResult - params.shuntRef = 60 ∧ (at32 (32 * 3111)).shuntResult - params.shuntRef = 61 ∧
      64 ≤ (starting { progress := .shunt, shuntCount := 64 }).loader.shuntCount ∧
      64 ≤ (starting { progress := .shunt, shuntPhase := .settleOut, shuntCount := 64 }).loader.shuntCount := by
  decide +kernel

/-- ListenWindowEndsAsTable102: the four rows of Table 10-2. -/
theorem witness_listen :
    let s (r : ReadResult) (f : Feedback) : State := { listening 64 with
      len := { ready.len with lastResult := r }, loop := { (listening 64).loop with brakeSample := f } }
    (∀ r ∈ [ReadResult.good, .failed], ∀ f ∈ [Feedback.set, .released],
      (s r f).seq.state = .start ∧ (s r f).loader.progress = .listen ∧ 64 ≤ (s r f).loader.listenCounter ∧
        (s r f).loop.drive = false ∧ (s r f).loop.brake = .set ∧ (s r f).link.nextPending = none) := by
  decide +kernel

/-- StrobeTakesItsSamples, LocalInputEvents: a first and a later sample, the filter time reached exactly. -/
theorem witness_strobe :
    let dip : State := { flight with
      dipLevel := true, params := { params with dipCode := 1 }, stop := { dipTimer := 249 } }
    flight.quiet = true ∧ flight.tens.requested = true ∧ flight.tens.started = true ∧
      (starting { progress := .shunt }).quiet = true ∧ dip.quiet = true ∧ dip.seq.state.operating = true ∧
      dip.dipLevel = true ∧ dipFilterTime dip.params.dipCode = 250 ∧ (elapseUs 1 dip).stop.dipTimer = 250 ∧
      flight.dipLevel = false := by decide +kernel

/-- StrobeTakesItsSamples: strobes that find nothing to act on, one with a dip a microsecond short of its filter time,
one with the brake not yet there, one in START. -/
theorem witness_ordinary_strobe :
    let dip : State := { flight with
      dipLevel := true, params := { params with dipCode := 1 }, stop := { dipTimer := 248 } }
    (∀ s ∈ [flight, dip, parking, assisted, listening 5], s.quiet = true ∧ s.stop.localLatch = false) ∧
      (elapseUs 1 dip).stop.dipTimer = 249 ∧ dipFilterTime dip.params.dipCode = 250 ∧
      flight.loop.supervision = .matched ∧ flight.loop.brake = .release ∧ parking.loop.supervision = .waiting ∧
      parking.loop.brake = .set ∧ assisted.loop.supervision = .failed ∧
      (listening 5).loop.supervision = .idle ∧ (listening 5).seq.state.operating = false ∧
      flight.link.line = .busy := by decide +kernel

/-- MatchingStrobeConfirmsTheBrake: a park, a settled stop, a stop with the brake still setting, a prime. -/
theorem witness_matching :
    let settling : State := { stopping with
      loop := { parking.loop with supTimer := 3 }, stop := { stopping.stop with phase := .settling } }
    let setting : State := { stopped with loop := { stopped.loop with supervision := .waiting } }
    let releasing : State := { primed with loop := { primed.loop with supervision := .waiting } }
    (∀ s ∈ [parking, settling, setting, releasing], s.quiet = true ∧ s.seq.state.operating = true ∧
      s.dipLevel = false ∧ s.stop.localLatch = false ∧ s.loop.supervision = .waiting ∧
      s.link.line = .busy) ∧ releasing.loop.brake = .release := by decide +kernel

/-- LostFeedbackFailsTheBrake: under SET and under RELEASE. -/
theorem witness_lost_feedback :
    (∀ s ∈ [ready, stopped, flight], s.quiet = true ∧ s.dipLevel = false ∧ s.stop.localLatch = false ∧
      s.loop.supervision = .matched) ∧ ready.loop.brake = .set ∧ flight.loop.brake = .release ∧
      ready.recordFits ∧ ready.outputsFit ∧ flight.recordFits ∧ flight.outputsFit :=
  ⟨by decide +kernel, rfl, rfl, ready_recordFits, ready_outputsFit, flight_recordFits, flight_outputsFit⟩

/-- FreeRunningStartReachesEveryBlock: a running timer, one at its end. -/
theorem witness_free_running :
    let due : State := { flight with clock := { flight.clock with timer := 6000 } }
    flight.quiet = true ∧ due.quiet = true ∧ flight.clock.running = true ∧ flight.clock.timer ≤ 6000 ∧
      due.clock.timer ≤ 6000 ∧ flight.clock.clkDiv < 25 ∧ flight.link.line = .busy := by decide +kernel

/-- A station whose own MARK is on the line, at a cycle timer value. -/
def marking (timer : Nat) : State := { flight with
  clock := { flight.clock with timer := timer, markRequested := true }
  link := { flight.link with
    markSlot := { st := .inAttempt }, txFrame := buildFrame kindMark 3#4 (markBody 302#16) } }

/-- MarkAtThreeThousandStartsACycle, EarlyMarkIsIgnored: 3000 and 2999, in operation and in the window. -/
theorem witness_marks :
    (elapseUs 2900 flight).clock.timer = 3000 ∧ (elapseUs 2899 flight).clock.timer = 2999 ∧
      flight.link.assembling = true ∧ flight.roleOf 9 = .winch ∧ 9 ≠ flight.own ∧
      (listening 5).quiet = true ∧ (listening 5).clock.running = true ∧
      (∀ n ∈ [3000, 2999], (marking n).quiet = true ∧ (marking n).own ≤ 15 ∧
        (marking n).roleOf (marking n).own = .winch ∧ (marking n).link.attempting = some .mark ∧
        (marking n).link.markSlot.renewed = none ∧ (marking n).clock.timer = n ∧
        (marking n).link.txFrame = buildFrame kindMark (marking n).ownNibble (markBody 302#16)) := by
  decide +kernel

/-- EarlyMarkIsIgnored: an own early MARK withdrawn on the line, and one with its content renewed. -/
theorem witness_own_early_mark :
    let early (x : Slot) : State := { marking 2999 with link := { (marking 2999).link with markSlot := x } }
    ∀ x ∈ [({ st := .inAttempt, withdrawn := true } : Slot), { st := .inAttempt, renewed := some [] }],
      (early x).quiet = true ∧ (early x).link.attempting = some .mark ∧ (early x).clock.timer < 3000 ∧
      (early x).link.txFrame = buildFrame kindMark (early x).ownNibble (markBody 302#16) := by decide +kernel

/-- MarkIsRequestedWhenDue: before the due time and at it, on a BUSY and an IDLE line, requested already. -/
theorem witness_mark_due :
    let due : State := { flight with clock := { flight.clock with timer := 4060 }, link := { line := .idle } }
    (∀ s ∈ [flight, due], s.quiet = true ∧ s.own ≤ 15 ∧ s.clock.clkDiv < 25 ∧ s.seq.state.operating = true ∧
      s.clock.running = true ∧ s.clock.markRequested = false ∧ s.clock.timer ≤ 4000 + 20 * s.own ∧
      s.link.markSlot = {} ∧ s.link.attempting = none) ∧ due.link.stopSlot.st ≠ .pending ∧
      (listening 5).seq.state.operating = false ∧ (marking 4070).clock.markRequested = true := by decide +kernel

/-- DueEventsTakeEffect, PrimeTimeoutParks, LostMembersStopTheFlight: each at its limit. -/
theorem witness_due :
    let overtime : State := { stopping with stop := { stopping.stop with stopTimer := 200 } }
    let slow : State := { parking with loop := { parking.loop with supTimer := 25 } }
    let late (f : Feedback) : State := { primed with
      seq := { primed.seq with primeTimer := 100 }, loop := { primed.loop with brakeSample := f } }
    (overtime.seq.state = .stopping ∧ overtime.params.stopLimit ≤ overtime.stop.stopTimer) ∧
      (slow.loop.supervision = .waiting ∧ slow.params.brakeTime ≤ slow.loop.supTimer) ∧
      (∀ f ∈ [Feedback.set, .released], (late f).seq.state = .primed ∧
        (late f).params.primeLimit ≤ (late f).seq.primeTimer ∧ (late f).loop.drive = true ∧
        (late f).loop.brake = .release) ∧
      ({ flight with peers := { flight.peers with lostDue := [5, 9] } } : State).peers.lostDue = 5 :: [9] ∧
      flight.seq.state.inFlight = true := by decide +kernel

/-- ChipClockEvents: a period at its start and at its last clock, the three lamps of LOCKED. -/
theorem witness_chip :
    let lamp (c : LockCause) (n : Nat) : State := { locked with
      stop := { locked.stop with lockCause := c, blinkClk := n } }
    flight.loop.pwmPhase < 1024 ∧
      ({ flight with loop := { flight.loop with pwmPhase := 1023 } } : State).loop.pwmPhase < 1024 ∧
      (∀ c ∈ [LockCause.image, .selfCheck, .duplicateStation], ∀ n ∈ [0, 3124999],
        (lamp c n).quiet = true ∧ (lamp c n).seq.state = .locked ∧ (lamp c n).stop.blinkClk < 3125000) ∧
      flight.seq.state ≠ .locked := by decide +kernel

/-- StartBitsAndDiscards, IdleLineBeginsTheLowestHeader: an IDLE and a BUSY line, each slot first. -/
theorem witness_line :
    let with3 (a b c : SlotState) : State := { flight with link := {
      stopSlot := { st := a }, markSlot := { st := b }, reportSlot := { st := c } } }
    (∀ s ∈ [with3 .pending .pending .pending, with3 .empty .pending .pending, with3 .empty .empty .pending,
        with3 .empty .empty .empty], s.quiet = true ∧ s.link.attempting = none ∧ s.seq.state.operating = true ∧
        s.link.line = .busy ∧ s.link.assembling = false) ∧
      (listening 5).seq.state.operating = false ∧
      ({ flight with link := { line := .idle } } : State).quiet = true ∧ flight.link.assembling = true ∧
      flight.quiet = true ∧ flight.link.attempting = none ∧ flight.link.nextPending = none ∧
      (sending 0).link.attempting.isSome = true ∧ (sending 0).link.line = .busy := by
  decide +kernel

/-- AttemptEndsAsTable23, ThirdErrorMutesTheSlot: one and two errors before, a withdrawn MARK, a renewed REPORT. -/
theorem witness_attempts :
    let withdrawn : State := { marking 3000 with link := { (marking 3000).link with
      markSlot := { st := .inAttempt, withdrawn := true } } }
    (∀ n ∈ [0, 1, 2], (sending n).quiet = true ∧ (sending n).link.attempting = some .report ∧
      (sending n).link.line = .busy ∧ (sending n).link.reportSlot.attempts = n ∧
      (sending n).link.reportSlot.withdrawn = false ∧ (sending n).stop.lockPending = false ∧
      (sending n).link.txFrame = buildFrame kindReport (sending n).ownNibble [7#8]) ∧
      withdrawn.quiet = true ∧ withdrawn.link.attempting = some .mark ∧
      withdrawn.link.markSlot.withdrawn = true := by decide +kernel

/-- DuplicateStopsAllAndLocks: a frame under the own number, the all-group STOP on the line, its third error, a
further frame under the own number. -/
theorem witness_duplicate :
    let third : State := { telling with link := { telling.link with
      stopSlot := { telling.link.stopSlot with attempts := 2 } } }
    let again : State := { telling with link := { telling.link with assembling := true } }
    (flight.quiet = true ∧ flight.link.assembling = true ∧ flight.seq.state.operating = true ∧
      (3#4 : BitVec 4).toNat = flight.own ∧ flight.stop.lockPending = false ∧
      (∀ s ∈ [telling, third, again], s.quiet = true ∧ s.link.attempting = some .stop ∧
        s.link.stopSlot.renewed = none ∧ s.link.stopSlot.withdrawn = false ∧ s.stop.lockPending = true ∧
        s.link.line = .busy ∧ s.own = 3 ∧
        s.link.txFrame = buildFrame kindStop s.ownNibble [0#8, 16#8, 3#8]) ∧
      third.link.stopSlot.attempts = 2 ∧ again.link.assembling = true) ∧
      flight.recordFits ∧ flight.outputsFit ∧ telling.recordFits ∧ telling.outputsFit :=
  ⟨by decide +kernel, flight_recordFits, flight_outputsFit, telling_recordFits, telling_outputsFit⟩

/-- FilteredFramesHaveNoEffect: no roster role, a wrong length, a wrong sender, LOCKED, START. -/
theorem witness_filter :
    flight.quiet = true ∧ flight.link.assembling = true ∧ flight.roleOf 1 = .noRole ∧ 1 ≠ flight.own ∧
      (9#4 : BitVec 4).toNat ∉ [0, 1, 2, 3, 4, 8] ∧ flight.roleOf 5 ≠ .console ∧ flight.roleOf 0 ≠ .winch ∧
      locked.quiet = true ∧ locked.link.assembling = true ∧ locked.seq.state = .locked ∧
      (starting { progress := .shunt }).loader.progress ≠ .listen ∧
      ({ listening 5 with link := { assembling := true } } : State).quiet = true := by decide +kernel

/-- The body of a REPORT with a cycle count and a state code. -/
def reportBody (n : Word16) (st : Byte) : List Byte :=
  Report.toBytes { report st 6#8 0#24 0#16 with cycleCount := n }

/-- ReportIsStoredInStep, LostMembersStopTheFlight: a body in step, a stopped member's. -/
theorem witness_report_body :
    (reportBody 300#16 5#8).length = 22 ∧ (Report.ofBytes (reportBody 300#16 5#8)).cycleCount = 300#16 ∧
      (Report.ofBytes (reportBody 300#16 5#8)).stateCode = 5#8 := ⟨rfl, by rfl, by rfl⟩

/-- ReportIsStoredInStep: the receiver of that body, the own number in the listen window. -/
theorem witness_report :
    flight.clock.count = 301#16 ∧ flight.roleOf 9 = .winch ∧
      (∃ r ∈ flight.peers.rows, r.station = 9 ∧ r.group = flight.ownGroup) ∧
      flight.seq.state.inFlight = true ∧ (listening 5).roleOf (listening 5).own = .winch :=
  ⟨rfl, by decide, ⟨_, .tail _ (.tail _ (.head _)), rfl, by decide⟩, rfl, by decide⟩

theorem ready_members : ready.membersShowReady ∧ ready.membersShareTiming := by
  constructor
  · intro r hr _ _
    simp only [ready, flight, List.map_cons, List.map_nil, List.mem_cons, List.not_mem_nil, or_false] at hr
    rcases hr with rfl | rfl | rfl | rfl <;> exact ⟨_, rfl, by decide, rfl⟩
  · intro r hr _ _ p hp
    simp only [ready, flight, List.map_cons, List.map_nil, List.mem_cons, List.not_mem_nil, or_false] at hr
    rcases hr with rfl | rfl | rfl | rfl <;> cases hp <;> rfl

theorem ready_airspace : ¬ ∃ r ∈ ready.peers.rows, ready.rowConflicts [2, 3, 4] 6 r := by
  rintro ⟨r, hr, -, -, p, hp, -, hs, -⟩
  simp only [ready, flight, List.map_cons, List.map_nil, List.mem_cons, List.not_mem_nil, or_false] at hr
  rcases hr with rfl | rfl | rfl | rfl <;> cases hp <;> revert hs <;> decide

/-- GoThatPassesPrimes: the start length off by the tolerance exactly. -/
theorem witness_go_passes :
    ready.quiet = true ∧ ready.link.assembling = true ∧ ready.roleOf 0 = .console ∧ 0 ≠ ready.own ∧
      ready.seq.state = .ready ∧ ready.outputsFit ∧ ready.ownGroup = 2 ∧
      ready.path.entry 6 = some { n := 5, f := 0, l0 := 109000 } ∧
      ready.startNear { n := 5, f := 0, l0 := 109000 } ∧ ready.membersShowReady ∧ ready.membersShareTiming ∧
      ¬ ∃ r ∈ ready.peers.rows, ready.rowConflicts [2, 3, 4] 6 r :=
  ⟨by decide +kernel, rfl, by decide, by decide, rfl, ready_outputsFit, by decide, by decide,
    by unfold State.startNear; decide +kernel, ready_members.1, ready_members.2, ready_airspace⟩

/-- GoIsRefusedByTheFirstCheck: each check failed alone. -/
theorem witness_go_refused :
    (flight.quiet = true ∧ flight.seq.state ≠ .ready) ∧ ready.path.entry 7 = none ∧
      (¬ ({ ready with len := { measured := 109201 } } : State).startNear { n := 5, f := 0, l0 := 109000 }) ∧
      (¬ ({ ready with peers := { rows := [{ station := 5, group := 2 }] } } : State).membersShowReady) ∧
      (¬ ({ ready with path := { path with fingerprint := 0#16 } } : State).membersShareTiming) ∧
      (∃ r ∈ flight.peers.rows.map (fun r => { r with report := some (report 4#8 1#8 0#24 0#16) }),
        ready.rowConflicts [2, 3, 4] 6 r) := by
  refine ⟨by decide +kernel, by decide, by unfold State.startNear; decide +kernel, fun h => ?_, fun h => ?_,
    ⟨{ station := 11, group := 4, age := 1, report := some (report 4#8 1#8 0#24 0#16) }, ?_, ?_⟩⟩
  · obtain ⟨p, hp, -⟩ := h { station := 5, group := 2 } (by decide) (by decide) (by decide)
    cases hp
  · exact absurd (h { station := 5, group := 2, age := 1, report := some (report 1#8 255#8 0#24 470#16) }
      (by decide +kernel) (by decide) (by decide) _ rfl) (by decide)
  · decide +kernel
  · exact ⟨by decide, by decide, _, rfl, by decide, by decide,
      { ownCue := 6, otherGroup := 4, otherCue := 255 }, by decide, rfl, rfl, .inl rfl⟩

/-- RateReplacesTheEnableRecord, StopFrameIsTakenByItsSender: the own group, all groups and another. -/
theorem witness_rate_stop :
    (∀ s ∈ [ready, flight, stopping, stopped], s.quiet = true ∧ s.link.assembling = true ∧
      s.roleOf 0 = .console ∧ s.roleOf 5 = .winch ∧ 0 ≠ s.own ∧ 5 ≠ s.own ∧ s.seq.state.operating = true ∧
      1 ≤ s.params.enableLimit ∧ s.ownGroup = 2) ∧ flight.seq.state.inFlight = true ∧
      stopping.stop.first.isSome = true := by decide +kernel

/-- ClearReturnsToReady: accepted, blocked by the brake alone, ignored while a lock is pending. -/
theorem witness_clear :
    (∀ s ∈ [stopped, assisted], s.quiet = true ∧ s.link.assembling = true ∧ s.roleOf 0 = .console ∧
      s.own = 3 ∧ s.seq.state = .stopped ∧ s.stop.lockPending = false) ∧
      (stopped.stop.lstopSample = false ∧ stopped.stop.dipSample = false ∧ stopped.stop.dfltSample = false ∧
        stopped.len.lastResult = .good ∧ stopped.loop.brakeSample = .set) ∧
      assisted.loop.brakeSample ≠ .set ∧ stopped.outputsFit :=
  ⟨by decide +kernel, by decide, by decide, stopped_outputsFit⟩

/-- LengthSampleJudgesTheWord: a check after the REPORT that finds an OVERLOAD, which the REPORT does not show. -/
theorem witness_late_overload :
    let s : State := { flight with tens := { flight.tens with latched := 901 } }
    let t := after s (.lengthSample (BitVec.ofNat 26 (134217 * 4)) .afterReport .beforeSequencer)
    s.quiet = true ∧ s.len.reading = true ∧ s.seq.state.operating = true ∧ s.link.line = .busy ∧
      t.stop.first = some (.overload, 3) ∧ (t.link.reportSlot.body.drop 14).take 2 = [0#8, 0xFF#8] := by
  decide +kernel

/-- LengthSampleJudgesTheWord: the lengths 0 and 150,000, one below 0, odd parity, the error bit, START. -/
theorem witness_length_words :
    let w (n bits : Nat) : EncoderWord := BitVec.ofNat 26 (n * 4 + bits)
    flight.quiet = true ∧ flight.len.reading = true ∧ (listening 5).quiet = true ∧
      (listening 5).len.reading = true ∧
      params.judgeWord (w 0 0) = .good 150000 ∧ params.judgeWord (w 491520 0) = .good 0 ∧
      params.judgeWord (w 491522 1) = .outOfRange ∧ params.judgeWord (w 0 1) = .failed ∧
      params.judgeWord (w 0 3) = .failed ∧ flight.len.failures = 0 := by decide +kernel

theorem leavesLength_109040 (s : State) (h : s.params = params) :
    s.leavesLength (BitVec.ofNat 26 (134217 * 4)) 109040 := by
  left; unfold State.readsLength; rw [h]; decide +kernel

/-- The statements of the length sample, after a single failed read: odd parity, the error bit. -/
theorem witness_single_failed_read :
    (∀ s ∈ [ready, primed, flight, stopping, parking, stopped, assisted], s.len.failures = 0) ∧
      ∀ n ∈ [1, 3], flight.leavesLength (BitVec.ofNat 26 n) 109150 :=
  ⟨by decide, fun n h => .inr ⟨by revert n; decide +kernel, by decide, by decide⟩⟩

/-- ReadySampleWatchesLoadAndCreep: one past the creep limit, one past T_max, neither. -/
theorem witness_ready_sample :
    let slips : State := { ready with creep := { reference := 109009, armed := true } }
    let overloaded : State := { ready with tens := { ready.tens with latched := 901 } }
    (∀ s ∈ [ready, slips, overloaded], s.quiet = true ∧ s.len.reading = true ∧ s.seq.state = .ready ∧
      s.params = params) ∧ slips.params.creepLimit < ((109040 : Int) - slips.creep.reference).natAbs ∧
      ¬ slips.params.tMax < slips.tens.latched ∧ overloaded.params.tMax < overloaded.tens.latched ∧
      ready.recordEmpty ∧ ready.outputsFit :=
  ⟨by decide +kernel, by decide, by decide, by decide, ready_recordEmpty, ready_outputsFit⟩

/-- LoadMonitorHoldsTheFlight: Table 8-4, samples 1 and 2, and a tension one above T_max. -/
theorem witness_load :
    (∀ s ∈ [ready, primed, flight, parking, stopping, stopped], s.seq.state.operating = true) ∧
      flight.tens.latched ≤ flight.params.tMax ∧ (loadCheck flight).gov.holds.slack = false ∧
      (loadCheck { flight with tens := { flight.tens with latched := 149 } }).load.slackCounter = 1 ∧
      (loadCheck { flight with tens := { flight.tens with latched := 901 } }).stop.first = some (.overload, 3) := by
  decide +kernel

/-- PrimedSampleMakesItsTests: a prime that stays (its brake still set), one that flies and trips, one that an OVERLOAD
stops before the tests. -/
theorem witness_primed_ends :
    let stays : State := { primed with loop := { primed.loop with brakeSample := .set } }
    let trips : State := { primed with params := { params with followTol := 32, tripTol := 33 } }
    let overloaded : State := { primed with tens := { primed.tens with latched := 901 } }
    (∀ s ∈ [stays, trips, overloaded], s.quiet = true ∧ s.len.reading = true ∧ s.seq.state = .primed ∧
      s.loop.drive = true ∧ s.loop.brake = .release ∧ s.stop.first = none ∧ ¬ s.slackEnds) ∧
      stays.tens.latched ≤ stays.params.tMax ∧ stays.loop.brakeSample ≠ .released ∧
      trips.params.tripTol <
        (((trips.targetAt (trips.nextSegment false) (trips.newProgress false) : Nat) : Int) - 109040).natAbs ∧
      (after stays (.lengthSample (BitVec.ofNat 26 (134217 * 4)) .beforeReport .beforeSequencer)).seq.state =
        .primed ∧
      (after trips (.lengthSample (BitVec.ofNat 26 (134217 * 4)) .afterReport .beforeSequencer)).stop.first =
        some (.followTrip, 3) ∧
      (after overloaded (.lengthSample (BitVec.ofNat 26 (134217 * 4)) .beforeSequencer .beforeSequencer)).stop.first =
        some (.overload, 3) := by
  have h (s : State) (a : s.params.slackLimit = 12) (b : s.load.slackCounter = 0) : ¬ s.slackEnds := by
    rintro (⟨-, c⟩ | c)
    · rw [a, b] at c; exact absurd c (by decide)
    · rw [a] at c; cases c
  refine ⟨fun s hs => ?_, by decide, by decide, by decide +kernel, by decide +kernel, by decide +kernel,
    by decide +kernel⟩
  simp only [List.mem_cons, List.not_mem_nil, or_false] at hs
  rcases hs with rfl | rfl | rfl <;>
    exact ⟨by decide +kernel, rfl, rfl, rfl, rfl, rfl, h _ rfl rfl⟩

/-- PrimedSampleMakesItsTests: one that flies; a group that flies makes it abandon. -/
theorem witness_primed_sample :
    (primed.quiet = true ∧ primed.len.reading = true ∧ primed.seq.state = .primed ∧
      primed.tens.latched ≤ primed.params.tMax ∧ primed.loop.brakeSample = .released) ∧
      primed.recordEmpty ∧ primed.outputsFit ∧
      primed.leavesLength (BitVec.ofNat 26 (134217 * 4)) 109040 ∧
      (primed.newProgress false ≠ primed.cueEnd ∧ primed.gov.achieved ≠ primed.cueEnd) ∧
      (((primed.targetAt (primed.nextSegment false) (primed.newProgress false) : Nat) : Int) - 109040).natAbs
        ≤ primed.params.tripTol ∧
      (after primed (.lengthSample (BitVec.ofNat 26 (134217 * 4)) .afterReport .beforeSequencer)).seq.state =
        .flying ∧
      primed.rowConflicts [3] 6
        { station := 11, group := 4, age := 5, report := some (report 3#8 1#8 0#24 0#16) } :=
  ⟨by decide +kernel, primed_recordEmpty, primed_outputsFit, leavesLength_109040 _ rfl, by decide +kernel,
    by decide +kernel, by decide +kernel,
    ⟨by decide, by decide, _, rfl, by decide, by decide,
      { ownCue := 6, otherGroup := 4, otherCue := 255 }, by decide, rfl, rfl, .inl rfl⟩⟩

/-- FlyingSampleFliesTheCue: within the follow tolerance, past the trip tolerance, at the cue end. -/
theorem witness_flying_sample :
    let tripped : State := { flight with params := { params with followTol := 32, tripTol := 33 } }
    let last : State := { flight with
      gov := { flight.gov with q := 327680, k := 4, dPrev := 0, achieved := 327679 }
      path := { path with segments := path.segments.take 4 ++ [{ t := 100, profile := .linear, lb := 109040 }] } }
    (∀ s ∈ [flight, tripped, last], s.quiet = true ∧ s.len.reading = true ∧ s.seq.state = .flying ∧
      s.tens.latched ≤ s.params.tMax) ∧ flight.recordEmpty ∧ flight.outputsFit ∧
      flight.leavesLength (BitVec.ofNat 26 (134217 * 4)) 109040 ∧
      (((flight.targetAt (flight.nextSegment false) (flight.newProgress false) : Nat) : Int) - 109040).natAbs = 34 ∧
      (((last.targetAt (last.nextSegment false) (last.newProgress false) : Nat) : Int) - 109040).natAbs = 0 ∧
      last.newProgress false = last.cueEnd ∧
      ({ flight with tens := { flight.tens with latched := 901 } } : State).quiet = true :=
  ⟨by decide +kernel, flight_recordEmpty, flight_outputsFit, leavesLength_109040 _ rfl, by decide +kernel,
    by decide +kernel, by decide +kernel, by decide +kernel⟩

/-- StoppingSampleSettlesTheStop: a path stop in progress, one that settles with its brake shown set. -/
theorem witness_stopping_sample :
    let resting : State := { stopping with
      gov := { stopping.gov with dPrev := 0 }, loop := { stopping.loop with brakeSample := .set } }
    (∀ s ∈ [stopping, resting], s.quiet = true ∧ s.len.reading = true ∧ s.seq.state = .stopping ∧
      s.tens.latched ≤ s.params.tMax) ∧ stopping.recordFits ∧ stopping.outputsFit ∧
      stopping.leavesLength (BitVec.ofNat 26 (134217 * 4)) 109040 ∧
      (stopping.newProgress true ≠ stopping.gov.q ∧ resting.stop.phase = .ramping ∧
        resting.newProgress true = resting.gov.q) ∧
      (((resting.targetAt (resting.nextSegment true) (resting.newProgress true) : Nat) : Int) - 109040).natAbs
        ≤ resting.params.followTol :=
  ⟨by decide +kernel, stopping_recordFits, stopping_outputsFit, leavesLength_109040 _ rfl, by decide +kernel,
    by decide +kernel⟩

/-- HeldSampleKeepsTheLine: PARKING below and above T_max; STOPPED at the creep limit and one past it, in category
CONTROLLED and in ASSIST. -/
theorem witness_held_sample :
    let overloaded : State := { parking with tens := { parking.tens with latched := 901 } }
    let at30 (s : State) : State := { s with creep := { reference := 109070, armed := true } }
    let at31 (s : State) : State := { s with creep := { reference := 109071, armed := true } }
    (∀ s ∈ [parking, overloaded, at30 stopped, at31 stopped, at31 assisted], s.quiet = true ∧
      s.len.reading = true ∧ s.params = params) ∧ overloaded.params.tMax < overloaded.tens.latched ∧
      (at30 stopped).params.creepLimit = ((109040 : Int) - (at30 stopped).creep.reference).natAbs ∧
      (at31 stopped).params.creepLimit < ((109040 : Int) - (at31 stopped).creep.reference).natAbs ∧
      parking.recordFits ∧ parking.outputsFit ∧ stopped.recordFits ∧ stopped.outputsFit ∧
      assisted.recordFits ∧ assisted.outputsFit ∧ stopped.stop.category = .controlled ∧
      parking.leavesLength (BitVec.ofNat 26 (134217 * 4)) 109040 :=
  ⟨by decide +kernel, by decide, by decide, by decide, parking_recordFits, parking_outputsFit,
    stopped_recordFits, stopped_outputsFit, assisted_recordFits, assisted_outputsFit, rfl,
    leavesLength_109040 _ rfl⟩

/-- LoadMonitorStopsWhereItFinds: a tension one above T_max, and an error above the trip tolerance. -/
theorem witness_overload_inside :
    let s : State := { flight with tens := { flight.tens with latched := 901 } }
    let trips : State := { s with params := { params with followTol := 10, tripTol := 20 } }
    (∀ x ∈ [s, trips], x.quiet = true ∧ x.len.reading = true ∧ x.seq.state = .flying ∧
      x.params.tMax < x.tens.latched ∧ x.link.line = .busy) ∧
      ∀ b ∈ [true, false], trips.params.tripTol <
        ((trips.targetAt (trips.nextSegment b) (trips.newProgress b) : Int) - 109040).natAbs := by decide +kernel

/-- LoadMonitorStopsWhereItFinds: a counter one below its limit; at the point before the REPORT, a flight that goes
on and one that the test for completion parks. -/
theorem witness_slack_inside :
    (slackAtLimit.quiet = true ∧ slackAtLimit.len.reading = true ∧ slackAtLimit.seq.state = .flying ∧
      slackAtLimit.tens.latched ≤ slackAtLimit.params.tMax ∧ slackAtLimit.link.line = .busy ∧
      slackAtLimit.params.slackLimit = slackAtLimit.load.slackCounter + 1) ∧
      slackAtLimit.slackEnds ∧ slackAtLimit.recordEmpty ∧ slackAtLimit.outputsFit ∧
      slackAtLimit.leavesLength (BitVec.ofNat 26 (134217 * 4)) 109040 ∧
      (∀ b ∈ [true, false],
        ((slackAtLimit.targetAt (slackAtLimit.nextSegment b) (slackAtLimit.newProgress b) : Int) - 109040).natAbs
          ≤ slackAtLimit.params.tripTol) ∧
      (slackAtLimit.newProgress false ≠ slackAtLimit.cueEnd ∧
        (slackAtLimit.withGov { flight.gov with q := 327680, k := 4, dPrev := 0, achieved := 327680 }).gov.achieved =
          slackAtLimit.cueEnd) :=
  ⟨by decide +kernel, .inl ⟨.inl (by decide), by decide⟩, flight_recordEmpty, flight_outputsFit,
    leavesLength_109040 _ rfl, by decide +kernel, by decide +kernel⟩

/-- CausesStopAsTables93And94: the states of the two tables and the categories in force. -/
theorem witness_causes :
    ready.recordFits ∧ ready.outputsFit ∧ flight.recordFits ∧ flight.outputsFit ∧ stopping.recordFits ∧
      stopping.outputsFit ∧ stopped.recordFits ∧ stopped.outputsFit ∧ assisted.recordFits ∧
      assisted.outputsFit ∧ assisted.stop.category = .assist ∧ stopped.stop.category = .controlled :=
  ⟨ready_recordFits, ready_outputsFit, flight_recordFits, flight_outputsFit, stopping_recordFits,
    stopping_outputsFit, stopped_recordFits, stopped_outputsFit, assisted_recordFits, assisted_outputsFit,
    rfl, rfl⟩

end Sys2Proof.Tests
end

section
/-!
SUPPORT. The Peer Table's views in the words the statements use, and the way of a console's GO through the Link
Port's filter, the six checks and the acceptance (chapter 1).
-/

namespace Sys2Proof.Machine

variable {s : State}

/-! ### The end of a frame -/

theorem frameOver_only (s : State) : s.changesOnly [.link] s.frameOver := withLink_only s _

theorem endReception_eq (s : State) : endReception s = s.frameOver := rfl

/-- A kept frame under another station's number reaches its owner in the operating states (R39, R40). -/
theorem receiveFrame_delivered {kind sender : BitVec 4} {body : List Byte} (ha : s.link.assembling = true)
    (hb : bodyFits body = true) (hn : sender.toNat ≠ s.own) (ho : s.seq.state.operating = true)
    (hk : s.keeps kind sender body = true) :
    receiveFrame kind sender body s = deliver kind sender body s.frameOver := by
  have not_own : ¬ (s.frameOver.seq.state.operating && sender.toNat == s.frameOver.own) = true := by
    rw [Bool.and_eq_true, beq_iff_eq]; exact fun h => hn h.2
  have kept : (s.frameOver.keeps kind sender body && s.frameOver.delivers kind) = true := by
    rw [Bool.and_eq_true]; exact ⟨hk, by simp [State.delivers, State.frameOver, ho]⟩
  rw [receiveFrame_accepted kind sender ha hb, endReception_eq, acceptReceived, if_neg not_own, if_pos kept]

/-! ### Presence and the member view -/

theorem Report.shows_iff {p : Report} {st : StationState} (ho : st.operating = true) :
    p.shows st = true ↔ p.stateCode.toNat = st.code := by
  simp [Report.shows, ho]

theorem presence_peer {r : Row} (h : r.station ≠ s.own) :
    s.presence r = r.peerPresence s.params.lostLimit := if_neg h

theorem peerPresence_fresh_iff {n : Nat} {r : Row} :
    r.peerPresence n = .fresh ↔ ∃ p, r.report = some p ∧ r.age ≤ 2 := by
  unfold Row.peerPresence
  cases r.report with
  | none => simp
  | some p => grind

theorem peerPresence_stale_iff {n : Nat} {r : Row} :
    r.peerPresence n = .stale ↔ ∃ p, r.report = some p ∧ 2 < r.age ∧ r.age < n := by
  unfold Row.peerPresence
  cases r.report with
  | none => simp
  | some p => grind

theorem mem_members {r : Row} :
    r ∈ s.members ↔ r ∈ s.peers.rows ∧ r.station ≠ s.own ∧ r.group = s.ownGroup := by
  simp [State.members, State.isMember, State.isPeer]

/-- A row of the airspace view is a peer row of another group with a report part that is not LOST (R70). -/
theorem mem_airspace {r : Row} :
    r ∈ s.airspace ↔ r ∈ s.peers.rows ∧ r.station ≠ s.own ∧ r.group ≠ s.ownGroup ∧
      ∃ p, r.report = some p ∧ (r.age ≤ 2 ∨ r.age < s.params.lostLimit) := by
  have seen (h : r.station ≠ s.own) : (s.presence r = .fresh ∨ s.presence r = .stale) ↔
      ∃ p, r.report = some p ∧ (r.age ≤ 2 ∨ r.age < s.params.lostLimit) := by
    rw [presence_peer h, peerPresence_fresh_iff, peerPresence_stale_iff]; grind
  simp only [State.airspace, State.isPeer, List.mem_filter, Bool.and_eq_true, Bool.or_eq_true, bne_iff_ne,
    beq_iff_eq]
  constructor
  · rintro ⟨hr, ⟨hn, hg⟩, hp⟩; exact ⟨hr, hn, hg, (seen hn).mp hp⟩
  · rintro ⟨hr, hn, hg, hp⟩; exact ⟨hr, ⟨hn, hg⟩, (seen hn).mpr hp⟩

/-! ### The exclusion test (R10) -/

theorem any_shows_iff {p : Report} {states : List StationState}
    (ho : ∀ st ∈ states, st.operating = true) :
    states.any p.shows = true ↔ p.stateCode.toNat ∈ states.map StationState.code := by
  rw [List.any_eq_true, List.mem_map]
  exact exists_congr fun st => and_congr_right fun hm => (Report.shows_iff (ho st hm)).trans eq_comm

theorem mem_exclusionsOf {path : PathStore} {c : Nat} {x : Exclusion} :
    x ∈ path.exclusionsOf c ↔ x ∈ path.exclusions ∧ x.ownCue = c := by
  simp [PathStore.exclusionsOf]

theorem conflictsWith_iff {states : List StationState} (ho : ∀ st ∈ states, st.operating = true)
    {x : Exclusion} {r : Row} {p : Report} (hp : r.report = some p) :
    conflictsWith states x r = true ↔ x.otherGroup = r.group ∧
      p.stateCode.toNat ∈ states.map StationState.code ∧ (x.otherCue = 255 ∨ x.otherCue = p.cue.toNat) := by
  simp only [conflictsWith, hp, Bool.and_eq_true, Bool.or_eq_true, beq_iff_eq, any_shows_iff ho,
    eq_comm (a := r.group), eq_comm (a := p.cue.toNat)]

/-- The rows that the exclusion test for `c` finds are those that conflict in the statements' words. -/
theorem mem_conflicts {states : List StationState} (ho : ∀ st ∈ states, st.operating = true) {c : Nat}
    {r : Row} : r ∈ s.conflicts states c ↔
      r ∈ s.peers.rows ∧ s.rowConflicts (states.map StationState.code) c r := by
  rw [State.conflicts, List.mem_filter, mem_airspace, List.any_eq_true]
  constructor
  · rintro ⟨⟨hr, hn, hg, p, hp, hage⟩, x, hx, hc⟩
    obtain ⟨hx, hown⟩ := mem_exclusionsOf.mp hx
    obtain ⟨hother, hstate, hcue⟩ := (conflictsWith_iff ho hp).mp hc
    exact ⟨hr, hn, hg, p, hp, hage, hstate, x, hx, hown, hother, hcue⟩
  · rintro ⟨hr, hn, hg, p, hp, hage, hstate, x, hx, hown, hother, hcue⟩
    exact ⟨⟨hr, hn, hg, p, hp, hage⟩, x, mem_exclusionsOf.mpr ⟨hx, hown⟩,
      (conflictsWith_iff ho hp).mpr ⟨hother, hstate, hcue⟩⟩

theorem conflicts_ne_nil_iff {states : List StationState} (ho : ∀ st ∈ states, st.operating = true)
    {c : Nat} : s.conflicts states c ≠ [] ↔
      ∃ r ∈ s.peers.rows, s.rowConflicts (states.map StationState.code) c r := by
  simp only [ne_eq, List.eq_nil_iff_forall_not_mem, not_forall, not_not, mem_conflicts ho]

/-! ### The six checks of a GO (Table 1-5) -/

theorem startNear_iff {e : CueEntry} :
    s.startNear e ↔ ¬ s.params.startTol < ((s.len.measured : Int) - (e.l0 : Int)).natAbs := Nat.not_lt.symm

theorem memberNotReady_eq_false_iff {r : Row} (h : r.station ≠ s.own) :
    s.memberNotReady r = false ↔ ∃ p, r.report = some p ∧ r.age ≤ 2 ∧ p.stateCode = 1#8 := by
  simp only [State.memberNotReady, Bool.not_eq_false', Bool.and_eq_true, beq_iff_eq, presence_peer h,
    peerPresence_fresh_iff]
  cases r.report with
  | none => simp
  | some p => simp [Report.shows_iff (st := .ready) rfl, StationState.code, ← BitVec.toNat_inj]

theorem membersShowReady_iff : s.membersShowReady ↔ s.members.any s.memberNotReady = false := by
  simp only [State.membersShowReady, List.any_eq_false, Bool.not_eq_true, mem_members]
  constructor
  · rintro h r ⟨hr, hn, hg⟩; exact (memberNotReady_eq_false_iff hn).mpr (h r hr hn hg)
  · intro h r hr hn hg; exact (memberNotReady_eq_false_iff hn).mp (h r ⟨hr, hn, hg⟩)

theorem memberFingerprintDiffers_eq_false_iff {r : Row} {p : Report} (hp : r.report = some p) :
    s.memberFingerprintDiffers r = false ↔ p.fingerprint = s.path.fingerprint := by
  simp [State.memberFingerprintDiffers, hp]

/-- Check 5 is made only once check 4 has passed, so that every member has a report part (R9). -/
theorem membersShareTiming_iff (h4 : s.membersShowReady) :
    s.membersShareTiming ↔ s.members.any s.memberFingerprintDiffers = false := by
  simp only [State.membersShareTiming, List.any_eq_false, Bool.not_eq_true, mem_members]
  constructor
  · rintro h r ⟨hr, hn, hg⟩
    obtain ⟨p, hp, -⟩ := h4 r hr hn hg
    exact (memberFingerprintDiffers_eq_false_iff hp).mpr (h r hr hn hg p hp)
  · intro h r hr hn hg p hp
    exact (memberFingerprintDiffers_eq_false_iff hp).mp (h r ⟨hr, hn, hg⟩)

theorem goConflicts_iff {c : Nat} : s.conflicts [.primed, .flying, .parking] c ≠ [] ↔
    ∃ r ∈ s.peers.rows, s.rowConflicts [2, 3, 4] c r :=
  conflicts_ne_nil_iff (states := [.primed, .flying, .parking]) (by decide)

theorem goChecks_busy {c : Nat} (h : s.seq.state ≠ .ready) : s.goChecks c = .error .busy := if_pos h

theorem goChecks_noCue {c : Nat} (h1 : s.seq.state = .ready) (h2 : s.path.entry c = none) :
    s.goChecks c = .error .noCue := by
  simp [State.goChecks, h1, h2]

section
variable {c : Nat} {e : CueEntry} (h1 : s.seq.state = .ready) (h2 : s.path.entry c = some e)
include h1 h2

theorem goChecks_startPosition (h3 : ¬ s.startNear e) : s.goChecks c = .error .startPosition := by
  simp [State.goChecks, h1, h2, not_not.mp (mt startNear_iff.mpr h3)]

theorem goChecks_groupNotReady (h3 : s.startNear e) (h4 : ¬ s.membersShowReady) :
    s.goChecks c = .error .groupNotReady := by
  have h4' := Bool.eq_true_of_not_eq_false (mt membersShowReady_iff.mpr h4)
  simp only [State.goChecks, h1, h2, startNear_iff.mp h3, h4', ne_eq, not_true, if_true, if_false]

theorem goChecks_fingerprint (h3 : s.startNear e) (h4 : s.membersShowReady)
    (h5 : ¬ s.membersShareTiming) : s.goChecks c = .error .fingerprint := by
  have h5' := Bool.eq_true_of_not_eq_false (mt (membersShareTiming_iff h4).mpr h5)
  simp only [State.goChecks, h1, h2, startNear_iff.mp h3, membersShowReady_iff.mp h4, h5', ne_eq, not_true,
    Bool.false_eq_true, if_true, if_false]

/-- After five checks passed, the exclusion test decides. -/
theorem goChecks_exclusion (h3 : s.startNear e) (h4 : s.membersShowReady) (h5 : s.membersShareTiming) :
    s.goChecks c =
      if s.conflicts [.primed, .flying, .parking] c ≠ [] then .error .airspace else .ok e := by
  simp only [State.goChecks, h1, h2, startNear_iff.mp h3, membersShowReady_iff.mp h4,
    (membersShareTiming_iff h4).mp h5, ne_eq, not_true, Bool.false_eq_true, if_false]

theorem goChecks_airspace (h3 : s.startNear e) (h4 : s.membersShowReady) (h5 : s.membersShareTiming)
    (h6 : ∃ r ∈ s.peers.rows, s.rowConflicts [2, 3, 4] c r) : s.goChecks c = .error .airspace := by
  rw [goChecks_exclusion h1 h2 h3 h4 h5, if_pos (goConflicts_iff.mpr h6)]

theorem goChecks_ok (h3 : s.startNear e) (h4 : s.membersShowReady) (h5 : s.membersShareTiming)
    (h6 : ¬ ∃ r ∈ s.peers.rows, s.rowConflicts [2, 3, 4] c r) : s.goChecks c = .ok e := by
  rw [goChecks_exclusion h1 h2 h3 h4 h5, if_neg (mt goConflicts_iff.mp h6)]

end

/-! ### The acceptance of a GO (R11, R13) -/

/-- RELEASE over SET: the supervision waits on it from timer 0, or stands MATCHED where the last sample
shows the brake released already (R113). -/
theorem commandBrake_release (h : s.loop.brake ≠ .release) (ho : s.seq.state.operating = true) :
    commandBrake .release s = s.withLoop { s.loop with
      brake := .release
      supervision := if s.loop.brakeSample = .released then .matched else .waiting
      supTimer := 0 } := by
  rw [commandBrake_change h ho, confirmBrake_release rfl]
  cases s.loop.brakeSample <;> rfl

theorem acceptGo_eq {c : Nat} {e : CueEntry} (h : s.loop.brake ≠ .release) :
    acceptGo c e s = { s with
      seq := { state := .primed, refusal := .noRefusal, primeTimer := 0, complete := false }
      gov := { s.gov with cue := c, q := 0, k := 0, dPrev := 0, achieved := 0, lag := false }
      loop := { s.loop with
        drive := true, target := e.l0, prevTarget := e.l0, brake := .release, sat := false
        supervision := if s.loop.brakeSample = .released then .matched else .waiting
        supTimer := 0 }
      creep := { s.creep with armed := false } } :=
  commandBrake_release h rfl

theorem State.outputsFit.brake_of_ready (h : s.outputsFit) (hs : s.seq.state = .ready) :
    s.loop.brake ≠ .release := by
  obtain ⟨-, -, released, -⟩ := h
  intro hb
  simpa [hs] using released hb

/-! ### A delivered GO (R5) -/

theorem takeGo_otherGroup {g c : Nat} (hg : g ≠ s.ownGroup) : takeGo g c s = s :=
  if_neg (by simp [hg])

theorem takeGo_refused {g c : Nat} {code : RefusalCode} (ho : s.seq.state.operating = true)
    (hg : g = s.ownGroup) (h : s.goChecks c = .error code) : takeGo g c s = refuse code s := by
  simp [takeGo, ho, hg, h]

theorem takeGo_accepted {g c : Nat} {e : CueEntry} (ho : s.seq.state.operating = true)
    (hg : g = s.ownGroup) (h : s.goChecks c = .ok e) : takeGo g c s = acceptGo c e s := by
  simp [takeGo, ho, hg, h]

/-- Table 2-4 keeps a GO from a console. -/
theorem keeps_go {sender : BitVec 4} (g c : Byte) (hr : s.roleOf sender.toNat = .console) :
    s.keeps kindGo sender [g, c] = true := by
  simp only [State.keeps, hr]; rfl

theorem deliver_go (sender : BitVec 4) (g c : Byte) (s : State) :
    deliver kindGo sender [g, c] s = takeGo g.toNat c.toNat s := rfl

/-- A console's GO in the operating states: the frame is over and the Sequencer takes it; the line stays
BUSY, so no attempt of the station's own begins with it. -/
theorem exec_goFrame {sender : BitVec 4} (g c : Byte) (hq : s.quiet = true) (ha : s.link.assembling = true)
    (hr : s.roleOf sender.toNat = .console) (hn : sender.toNat ≠ s.own)
    (ho : s.seq.state.operating = true) :
    exec (.goFrame sender [g, c]) s = .next (takeGo g.toNat c.toNat s.frameOver) := by
  have busy : (takeGo g.toNat c.toNat s.frameOver).link.line = .busy := by
    rw [(takeGo_only s.frameOver _ _).link]; rfl
  calc exec (.goFrame sender [g, c]) s = external (receiveFrame kindGo sender [g, c]) s := rfl
    _ = .next (beginAttempt (takeGo g.toNat c.toNat s.frameOver)) := by
      rw [external_of_quiet _ hq, receiveFrame_delivered ha (body := [g, c]) rfl hn ho (keeps_go g c hr), deliver_go]
    _ = .next (takeGo g.toNat c.toNat s.frameOver) := by rw [beginAttempt_busy busy]

/-! ### The statements -/

/-- Settles O49: the checks pass, and the acceptance is one state written out. -/
theorem goThatPassesPrimes : Obligations.GoThatPassesPrimes := by
  unfold Obligations.GoThatPassesPrimes
  intro sender g c e s hq ha hr hn h1 hfit hg h2 h3 h4 h5 h6
  have ho : s.seq.state.operating = true := by rw [h1]; rfl
  have passed : s.frameOver.goChecks c.toNat = .ok e := goChecks_ok (s := s) h1 h2 h3 h4 h5 h6
  have brake : s.frameOver.loop.brake ≠ .release := hfit.brake_of_ready h1
  refine ⟨acceptGo c.toNat e s.frameOver, ?_, ?_⟩
  · rw [exec_goFrame g c hq ha hr hn ho, takeGo_accepted (s := s.frameOver) ho hg passed]
  · have only : s.changesOnly [.link, .seq, .gov, .loop, .creep] (acceptGo c.toNat e s.frameOver) :=
      (frameOver_only s).next (acceptGo_only _ _ _)
    rw [acceptGo_eq brake] at only ⊢
    exact ⟨rfl, rfl, rfl, rfl, rfl, rfl, rfl, rfl, only⟩

/-- Settles O50, check by check in the order of Table 1-5. -/
theorem goIsRefusedByTheFirstCheck : Obligations.GoIsRefusedByTheFirstCheck := by
  unfold Obligations.GoIsRefusedByTheFirstCheck
  intro sender g c s hq ha hr hn ho refused
  have go := exec_goFrame g c hq ha hr hn ho
  refine ⟨fun hg => by rw [go, takeGo_otherGroup (s := s.frameOver) hg], fun hg => ?_⟩
  have fails {code : RefusalCode} (h : s.goChecks c.toNat = .error code) : refused code :=
    go.trans (congrArg _ (takeGo_refused (s := s.frameOver) ho hg h))
  exact ⟨fun h1 => fails (goChecks_busy h1), fun h1 =>
    ⟨fun h2 => fails (goChecks_noCue h1 h2), fun e h2 =>
      ⟨fun h3 => fails (goChecks_startPosition h1 h2 h3), fun h3 =>
        ⟨fun h4 => fails (goChecks_groupNotReady h1 h2 h3 h4), fun h4 =>
          ⟨fun h5 => fails (goChecks_fingerprint h1 h2 h3 h4 h5), fun h5 h6 =>
            fails (goChecks_airspace h1 h2 h3 h4 h5 h6)⟩⟩⟩⟩⟩

end Sys2Proof.Machine
end

section
/-!
SUPPORT. Stages 1 to 4 of the cycle computation as arithmetic, and the way of a console's RATE to the enable record
(chapter 6).
-/

namespace Sys2Proof.Machine

variable {s : State}

/-! ### Stage 1: the nominal advance (R90) -/

theorem one_le_nominalAdvance {t : Nat} (ht : 1 ≤ t) (hmax : t ≤ 65535) : 1 ≤ nominalAdvance t :=
  Nat.div_pos (by omega) ht

theorem nominalAdvance_le {t : Nat} (ht : 1 ≤ t) : nominalAdvance t ≤ 65536 :=
  Nat.div_le_of_le_mul (by omega)

/-! ### Stage 2: the wanted advance (R90) -/

theorem wantedAdvance_held (r d : Nat) : wantedAdvance true r d = 0 := rfl

theorem wantedAdvance_free (r d : Nat) : wantedAdvance false r d = min 65536 ((d * r + 64) / 128) := rfl

theorem wantedAdvance_rate_zero (d : Nat) : wantedAdvance false 0 d = 0 := by
  rw [wantedAdvance_free, Nat.mul_zero]; rfl

theorem wantedAdvance_free_le (r d : Nat) : wantedAdvance false r d ≤ 65536 := Nat.min_le_left _ _

/-- The rate 128 is the cue's own pace: the half added before the division is lost in it. -/
theorem wantedAdvance_rate_nominal {d : Nat} (hd : d ≤ 65536) : wantedAdvance false 128 d = d := by
  rw [wantedAdvance_free]; omega

/-! ### Stage 3: the ramp (R91) -/

section
variable {a dPrev dWant : Nat}

theorem rampedAdvance_toInt : (rampedAdvance a dPrev dWant : Int) =
    max (max 0 ((dPrev : Int) - (a : Int))) (min (dWant : Int) ((dPrev : Int) + (a : Int))) := by
  unfold rampedAdvance; omega

theorem le_rampedAdvance_add : dPrev ≤ rampedAdvance a dPrev dWant + a :=
  Nat.sub_le_iff_le_add.mp (Nat.le_max_left _ _)

theorem rampedAdvance_le_add : rampedAdvance a dPrev dWant ≤ dPrev + a := by
  unfold rampedAdvance; omega

theorem rampedAdvance_le {b : Nat} (hPrev : dPrev ≤ b) (hWant : dWant ≤ b) :
    rampedAdvance a dPrev dWant ≤ b := by
  unfold rampedAdvance; omega

theorem rampedAdvance_within (hlo : dPrev - a ≤ dWant) (hhi : dWant ≤ dPrev + a) :
    rampedAdvance a dPrev dWant = dWant := by
  unfold rampedAdvance; rw [Nat.min_eq_left hhi, Nat.max_eq_right hlo]

end

/-! ### Stage 4: the boundary (R92) -/

section
variable {k q d : Nat}

theorem boundaryClamp_crossing (h : 65536 ≤ q - k * 65536 + d) : boundaryClamp k q d = (k + 1) * 65536 :=
  if_pos h

theorem boundaryClamp_inside (h : q - k * 65536 + d < 65536) : boundaryClamp k q d = q + d :=
  if_neg (Nat.not_le.mpr h)

/-- Progress is not lowered: the boundary stands at or after it. -/
theorem le_boundaryClamp (hq : q ≤ (k + 1) * 65536) : q ≤ boundaryClamp k q d := by
  rcases Nat.lt_or_ge (q - k * 65536 + d) 65536 with h | h
  · rw [boundaryClamp_inside h]; exact Nat.le_add_right q d
  · rw [boundaryClamp_crossing h]; exact hq

/-- Progress that lies in its segment does not pass the segment's end. -/
theorem boundaryClamp_le (hk : k * 65536 ≤ q) : boundaryClamp k q d ≤ (k + 1) * 65536 := by
  rcases Nat.lt_or_ge (q - k * 65536 + d) 65536 with h | h
  · rw [boundaryClamp_inside h]; omega
  · exact (boundaryClamp_crossing h).le

end

/-! ### A frame from outside in the operating states -/

/-- A frame that the filter keeps is over and with its owner, and then an attempt that has become possible begins
(R37, R39, R40). -/
theorem external_receiveFrame {kind sender : BitVec 4} {body : List Byte} (hq : s.quiet = true)
    (ha : s.link.assembling = true) (hb : bodyFits body = true) (hn : sender.toNat ≠ s.own)
    (ho : s.seq.state.operating = true) (hk : s.keeps kind sender body = true) :
    external (receiveFrame kind sender body) s =
      .next (beginAttempt (deliver kind sender body s.frameOver)) := by
  rw [external_of_quiet _ hq, receiveFrame_delivered ha hb hn ho hk]

theorem addressed_iff {g : Byte} : s.addressed g.toNat = true ↔ g = 0#8 ∨ g.toNat = s.ownGroup := by
  simp [State.addressed, ← BitVec.toNat_inj]

/-! ### A delivered RATE (R86, R87) -/

/-- Below the enable limit, which the image holds at 2 or more, the age 0 clears ENABLE. -/
theorem recomputeEnable_fresh (h : s.gov.enableAge < s.params.enableLimit) :
    recomputeEnable s = s.withGov { s.gov with holds := { s.gov.holds with enable := false } } := by
  rw [recomputeEnable, decide_eq_false (Nat.not_le.mpr h)]

theorem takeRate_addressed {g r : Nat} (hg : s.addressed g = true) (hl : 1 ≤ s.params.enableLimit) :
    takeRate g r s = s.withGov { s.gov with
      rate := r, enableAge := 0, holds := { s.gov.holds with enable := false } } :=
  (if_pos hg).trans (recomputeEnable_fresh hl)

theorem takeRate_otherGroup {g r : Nat} (hg : ¬ s.addressed g = true) : takeRate g r s = s := if_neg hg

/-- Table 2-4 keeps a RATE from a console. -/
theorem keeps_rate {sender : BitVec 4} (g r : Byte) (hr : s.roleOf sender.toNat = .console) :
    s.keeps kindRate sender [g, r] = true := by
  simp only [State.keeps, hr]; rfl

theorem deliver_rate (sender : BitVec 4) (g r : Byte) (s : State) :
    deliver kindRate sender [g, r] s = takeRate g.toNat r.toNat s := rfl

/-- A console's RATE in the operating states: the frame is over and the Governor takes it; the line stays BUSY, so no
attempt of the station's own begins with it. -/
theorem exec_rateFrame {sender : BitVec 4} (g r : Byte) (hq : s.quiet = true) (ha : s.link.assembling = true)
    (hr : s.roleOf sender.toNat = .console) (hn : sender.toNat ≠ s.own)
    (ho : s.seq.state.operating = true) :
    exec (.rateFrame sender [g, r]) s = .next (takeRate g.toNat r.toNat s.frameOver) := by
  have busy : (takeRate g.toNat r.toNat s.frameOver).link.line = .busy := by
    rw [(takeRate_only s.frameOver _ _).link]; rfl
  calc exec (.rateFrame sender [g, r]) s = external (receiveFrame kindRate sender [g, r]) s := rfl
    _ = .next (beginAttempt (takeRate g.toNat r.toNat s.frameOver)) := by
      rw [external_receiveFrame hq ha rfl hn ho (keeps_rate g r hr), deliver_rate]
    _ = .next (takeRate g.toNat r.toNat s.frameOver) := by rw [beginAttempt_busy busy]

/-! ### The statements -/

/-- Settles O21, stage by stage. -/
theorem stagesOneToFour : Obligations.StagesOneToFour := by
  unfold Obligations.StagesOneToFour
  refine ⟨fun t ht hmax => ?nominal, rfl, rfl, fun r d => ?wanted, fun a dPrev dWant hPrev hWant _ => ?ramp,
    fun k q d hk hq => ?boundary⟩
  case nominal =>
    exact ⟨rfl, one_le_nominalAdvance ht hmax, nominalAdvance_le ht,
      wantedAdvance_rate_nominal (nominalAdvance_le ht)⟩
  case wanted =>
    exact ⟨wantedAdvance_held r d, wantedAdvance_free r d, wantedAdvance_rate_zero d, wantedAdvance_free_le r d⟩
  case ramp =>
    exact ⟨rampedAdvance_toInt, le_rampedAdvance_add, rampedAdvance_le_add, rampedAdvance_le hPrev hWant,
      rampedAdvance_within⟩
  case boundary =>
    exact ⟨boundaryClamp_crossing, boundaryClamp_inside, le_boundaryClamp hq, boundaryClamp_le hk⟩

/-- Settles O51, by the group that the RATE names. -/
theorem rateReplacesTheEnableRecord : Obligations.RateReplacesTheEnableRecord := by
  unfold Obligations.RateReplacesTheEnableRecord
  intro sender g r s hq ha hr hn ho hl
  rw [exec_rateFrame g r hq ha hr hn ho]
  constructor
  · intro hg
    have taken : s.frameOver.addressed g.toNat = true := addressed_iff (s := s).mpr hg
    rw [takeRate_addressed (s := s.frameOver) taken hl]; rfl
  · intro h0 hown
    have ignored : ¬ s.frameOver.addressed g.toNat = true :=
      mt (addressed_iff (s := s)).mp (not_or.mpr ⟨h0, hown⟩)
    rw [takeRate_otherGroup ignored]

end Sys2Proof.Machine
end

section
/-!
SUPPORT. The arithmetic of the Line Loop's speed command: the position term, the clamp to ±V_max and the PWM duty, and
what a length sample writes of them (chapter 7).
-/

namespace Sys2Proof.Machine

/-! ### The sum P + 10 ΔL (R108) -/

theorem positionTerm_eq (kp shift : Nat) (e : Int) : positionTerm kp shift e =
    if shift = 0 then (kp : Int) * e else ((kp : Int) * e + 2 ^ (shift - 1)) / 2 ^ shift := by
  unfold positionTerm; push_cast; rfl

/-- The change of target: at the entry to FLYING the previous target is first set equal to it (R106). -/
theorem targetChange_eq (target prev : Nat) (entering : Bool) :
    (target : Int) - ((if entering then target else prev) : Int) =
      if entering then 0 else (target : Int) - (prev : Int) := by
  cases entering
  case true => exact sub_self _
  case false => rfl

/-! ### The clamp to ±V_max (R108, R109) -/

section
variable {vMax : Nat} {v : Int}

theorem neg_le_clampSpeed : -(vMax : Int) ≤ clampSpeed vMax v := le_max_left _ _

theorem clampSpeed_le : clampSpeed vMax v ≤ (vMax : Int) := max_le (by omega) (min_le_right _ _)

/-- The clamp changes exactly the values outside its bounds. -/
theorem ne_clampSpeed_iff : v ≠ clampSpeed vMax v ↔ v < -(vMax : Int) ∨ (vMax : Int) < v := by
  unfold clampSpeed; omega

end

/-! ### The PWM duty (R110) -/

/-- The duty's distance from the duty 512 of a command of 0. -/
def dutyOffset (vMax : Nat) (v : Int) : Int := (1022 * v + (vMax : Int)) / (2 * (vMax : Int))

section
variable {vMax : Nat} {v : Int}

/-- The offset is the integer between its two bounds: each value of the duty needs only linear arithmetic. -/
theorem dutyOffset_eq_iff (h : 1 ≤ vMax) {q : Int} : dutyOffset vMax v = q ↔
    q * (2 * (vMax : Int)) ≤ 1022 * v + (vMax : Int) ∧
      1022 * v + (vMax : Int) < q * (2 * (vMax : Int)) + 2 * (vMax : Int) :=
  Int.ediv_eq_iff_of_pos (by omega)

theorem dutyOffset_zero (h : 1 ≤ vMax) : dutyOffset vMax 0 = 0 := (dutyOffset_eq_iff h).mpr (by omega)

theorem dutyOffset_max (h : 1 ≤ vMax) : dutyOffset vMax vMax = 511 := (dutyOffset_eq_iff h).mpr (by omega)

theorem dutyOffset_neg_max (h : 1 ≤ vMax) : dutyOffset vMax (-vMax) = -511 :=
  (dutyOffset_eq_iff h).mpr (by omega)

/-- A larger command does not lower the duty. -/
theorem dutyOffset_mono (h : 1 ≤ vMax) {w : Int} (hvw : v ≤ w) : dutyOffset vMax v ≤ dutyOffset vMax w :=
  Int.ediv_le_ediv (by omega) (by omega)

theorem neg_le_dutyOffset (h : 1 ≤ vMax) (hv : -(vMax : Int) ≤ v) : -511 ≤ dutyOffset vMax v :=
  (dutyOffset_neg_max h).ge.trans (dutyOffset_mono h hv)

theorem dutyOffset_le (h : 1 ≤ vMax) (hv : v ≤ (vMax : Int)) : dutyOffset vMax v ≤ 511 :=
  (dutyOffset_mono h hv).trans (dutyOffset_max h).le

/-- Within ±V_max the natural number of the model is the formula's integer: nothing is cut off at 0. -/
theorem pwmDutyOf_toInt (h : 1 ≤ vMax) (hv : -(vMax : Int) ≤ v) :
    (pwmDutyOf vMax v : Int) = 512 + dutyOffset vMax v :=
  Int.toNat_of_nonneg (by have := neg_le_dutyOffset h hv; unfold dutyOffset at this; omega)

end

/-! ### A length sample's speed command (R106 to R110) -/

/-- What a length sample writes, by the error and the change of target it is formed with. -/
theorem speedCommand_eq (target : Nat) (entering : Bool) (s : State) :
    speedCommand target entering s =
      let e : Int := (target : Int) - (s.len.measured : Int)
      let raw := rawSpeed s.params.kp s.params.shiftS e
        (if entering then 0 else (target : Int) - (s.loop.prevTarget : Int))
      let v := clampSpeed s.params.vMax raw
      s.withLoop { s.loop with
        target := target, prevTarget := target, err := e, speed := v
        sat := s.loop.sat || raw != v, duty := pwmDutyOf s.params.vMax v } := by
  rw [← targetChange_eq]; rfl

/-! ### The statement -/

/-- Settles O20, field by field of what the sample writes: the clamp bounds the command, and the duty is monotone between
its values at ±V_max. -/
theorem speedCommandAndDuty : Obligations.SpeedCommandAndDuty := by
  unfold Obligations.SpeedCommandAndDuty
  intro target entering s hmax t e dl p vMax
  have ht : t = _ := speedCommand_eq target entering s
  have hraw : rawSpeed s.params.kp s.params.shiftS e dl = p + 10 * dl :=
    congrArg (· + 10 * dl) (positionTerm_eq _ _ _)
  have hspeed : t.loop.speed = clampSpeed s.params.vMax (p + 10 * dl) := by rw [ht, ← hraw]; rfl
  have hsat : t.loop.sat = (s.loop.sat || p + 10 * dl != clampSpeed s.params.vMax (p + 10 * dl)) := by
    rw [ht, ← hraw]; rfl
  have hlo : -vMax ≤ t.loop.speed := hspeed ▸ neg_le_clampSpeed
  have hhi : t.loop.speed ≤ vMax := hspeed ▸ clampSpeed_le
  have hduty : (t.loop.duty : Int) = 512 + dutyOffset s.params.vMax t.loop.speed := pwmDutyOf_toInt hmax hlo
  have hleast := neg_le_dutyOffset hmax hlo
  have hmost := dutyOffset_le hmax hhi
  refine ⟨rfl, hspeed, hlo, hhi, ?sat, hduty, by omega, by omega, ?zero, ?top, ?bottom, rfl, rfl, rfl, rfl,
    speedCommand_only s target entering⟩
  case sat => rw [hsat, Bool.or_eq_true, bne_iff_ne, ne_clampSpeed_iff]
  case zero => intro hv; rw [hv, dutyOffset_zero hmax] at hduty; omega
  case top => intro hv; rw [hv, dutyOffset_max hmax] at hduty; omega
  case bottom => intro hv; rw [hv, dutyOffset_neg_max hmax] at hduty; omega

end Sys2Proof.Machine
end

section
/-!
SUPPORT. The way of a STOP frame into the fault record and of a console's CLEAR to READY (chapter 9).
-/

namespace Sys2Proof.Machine

variable {s : State}

/-! ### A frame that leaves the Link Port alone -/

/-- A kept frame in the operating states whose owner leaves the Link Port as the reception left it: the line is BUSY,
so no attempt of the station's own begins with the frame. -/
theorem external_receiveFrame_next {kind sender : BitVec 4} {body : List Byte} (hq : s.quiet = true)
    (ha : s.link.assembling = true) (hb : bodyFits body = true) (hn : sender.toNat ≠ s.own)
    (ho : s.seq.state.operating = true) (hk : s.keeps kind sender body = true)
    (hl : (deliver kind sender body s.frameOver).link = s.frameOver.link) :
    external (receiveFrame kind sender body) s = .next (deliver kind sender body s.frameOver) := by
  have busy : (deliver kind sender body s.frameOver).link.line = .busy := by rw [hl]; rfl
  rw [external_receiveFrame hq ha hb hn ho hk, beginAttempt_busy busy]

theorem frameOver_addressed_iff {g : Byte} :
    s.frameOver.addressed g.toNat = true ↔ g = 0#8 ∨ g.toNat = s.ownGroup := addressed_iff (s := s)

/-! ### The cause of a STOP frame (R148) -/

/-- The cause that a STOP frame of the station `n` is taken as. -/
def State.stopFrameCause (s : State) (n : Nat) : FaultCode :=
  if s.roleOf n = .console then .consoleStop else .groupStop

/-- Table 9-2 marks neither cause as sent. -/
theorem stopFrameCause_unsent (s : State) (n : Nat) : (s.stopFrameCause n).sent = false := by
  unfold State.stopFrameCause; split <;> rfl

theorem stopFrameCause_controlled (s : State) (n : Nat) : (s.stopFrameCause n).category = .controlled := by
  unfold State.stopFrameCause; split <;> rfl

theorem takeStopFrame_otherGroup {n g : Nat} (hg : ¬ s.addressed g = true) : takeStopFrame n g s = s := if_neg hg

theorem takeStopFrame_addressed {n g : Nat} (hg : s.addressed g = true) (ho : s.seq.state.operating = true) :
    takeStopFrame n g s = intake (s.stopFrameCause n) n s :=
  (if_pos hg).trans (takeCause_unsent n ho (stopFrameCause_unsent s n))

/-- A received STOP is never sent on: no slot is requested. -/
theorem takeStopFrame_link (ho : s.seq.state.operating = true) (n g : Nat) :
    (takeStopFrame n g s).link = s.link := by
  by_cases hg : s.addressed g = true
  · rw [takeStopFrame_addressed hg ho]; exact (intake_only s _ _).link
  · rw [takeStopFrame_otherGroup hg]

/-! ### The intake of a controlled cause (Tables 9-3 and 9-4, R145) -/

theorem applyStop_ready (cat : Category) (hs : s.seq.state = .ready) : applyStop cat s = stopFromReady cat s := by
  unfold applyStop; rw [hs]

theorem applyStop_inFlight (cat : Category) (hs : s.seq.state.inFlight = true) :
    applyStop cat s = stopFromFlight cat s := by
  unfold applyStop
  cases h : s.seq.state with
  | primed | flying | parking => rfl
  | start | ready | stopping | stopped | locked => rw [h] at hs; cases hs

/-- A stop that is in force already stays as it is under a controlled cause. -/
theorem applyStop_controlled_held (hs : s.seq.state = .stopping ∨ s.seq.state = .stopped) :
    applyStop .controlled s = s := by
  unfold applyStop
  rcases hs with h | h <;> rw [h]
  · rfl
  · unfold stopFromStopped; cases s.stop.category <;> rfl

theorem enterCategory_controlled {x : StopController} (h : x.assist = false) :
    x.enterCategory .controlled = { x with category := .controlled } := by
  unfold StopController.enterCategory; rw [h]; rfl

section
variable {c : FaultCode} {src : Nat} (hc : c.category = .controlled)
include hc

theorem intake_controlled_opens (hfirst : s.stop.first = none) :
    intake c src s = applyStop .controlled (s.withStop { s.stop with first := some (c, src) }) := by
  rw [intake, hc, record_opens hfirst]

theorem intake_controlled_ready (hs : s.seq.state = .ready) (hr : s.recordEmpty) :
    intake c src s = (s.withSeq { s.seq with state := .stopped }).withStop { s.stop with
      first := some (c, src), category := .controlled } := by
  obtain ⟨hfirst, -, -, hassist⟩ := hr
  rw [intake_controlled_opens hc hfirst, applyStop_ready, stopFromReady, enterCategory_controlled]
  · rfl
  · exact hassist
  · exact hs

theorem intake_controlled_inFlight (hs : s.seq.state.inFlight = true) (hr : s.recordEmpty) :
    intake c src s = (s.withSeq { s.seq with state := .stopping }).withStop { s.stop with
      first := some (c, src), category := .controlled, phase := .ramping, stopTimer := 0 } := by
  obtain ⟨hfirst, -, -, hassist⟩ := hr
  rw [intake_controlled_opens hc hfirst, applyStop_inFlight, stopFromFlight, enterCategory_controlled]
  · rfl
  · exact hassist
  · exact hs

theorem intake_controlled_held (hs : s.seq.state = .stopping ∨ s.seq.state = .stopped)
    (hf : s.stop.first.isSome = true) :
    intake c src s = s.withStop { s.stop with later := addLater s.stop.later c } := by
  obtain ⟨p, hp⟩ := Option.isSome_iff_exists.mp hf
  rw [intake, hc, record_adds hp, applyStop_controlled_held]
  exact hs

end

/-! ### A delivered STOP frame -/

/-- Table 2-4 keeps a STOP from every station with a role. -/
theorem keeps_stop {sender : BitVec 4} (g code station : Byte) (hr : s.roleOf sender.toNat ≠ .noRole) :
    s.keeps kindStop sender [g, code, station] = true := by
  have role : (s.roleOf sender.toNat != .noRole) = true := bne_iff_ne.mpr hr
  simp only [State.keeps, role]; rfl

theorem deliver_stop (sender : BitVec 4) (g code station : Byte) (s : State) :
    deliver kindStop sender [g, code, station] s = takeStopFrame sender.toNat g.toNat s := rfl

theorem exec_stopFrame {sender : BitVec 4} (g code station : Byte) (hq : s.quiet = true)
    (ha : s.link.assembling = true) (hr : s.roleOf sender.toNat ≠ .noRole) (hn : sender.toNat ≠ s.own)
    (ho : s.seq.state.operating = true) :
    exec (.stopFrame sender [g, code, station]) s =
      .next (takeStopFrame sender.toNat g.toNat s.frameOver) :=
  external_receiveFrame_next hq ha rfl hn ho (keeps_stop g code station hr)
    (takeStopFrame_link (s := s.frameOver) ho sender.toNat g.toNat)

/-! ### What blocks a CLEAR (R153) -/

theorem clearBlocked_iff : s.clearBlocked = true ↔
    s.stop.lstopSample = true ∨ s.stop.dipSample = true ∨ s.stop.dfltSample = true ∨
      s.len.lastResult = .failed ∨ s.loop.brakeSample ≠ .set := by
  simp only [State.clearBlocked, Bool.or_eq_true, beq_iff_eq, bne_iff_ne, or_assoc]

/-- A CLEAR that this station checks: its group and number, in STOPPED, no lock pending. -/
def State.checksClear (s : State) (g n : Byte) : Prop :=
  ((g = 0#8 ∨ g.toNat = s.ownGroup) ∧ (n = 255#8 ∨ n.toNat = s.own)) ∧ s.seq.state = .stopped ∧
    s.stop.lockPending = false

theorem checksClear_iff {g n : Byte} : s.checksClear g n ↔
    (s.addressed g.toNat && (n.toNat == 255 || n.toNat == s.own) && s.seq.state == .stopped &&
      !s.stop.lockPending) = true := by
  simp [State.checksClear, addressed_iff, ← BitVec.toNat_inj (x := n), and_assoc]

theorem takeClear_ignored {g n : Byte} (h : ¬ s.checksClear g n) : takeClear g.toNat n.toNat s = s :=
  if_neg (mt checksClear_iff.mpr h)

theorem takeClear_blocked {g n : Byte} (h : s.checksClear g n) (hb : s.clearBlocked = true) :
    takeClear g.toNat n.toNat s = refuse .clearBlocked s :=
  (if_pos (checksClear_iff.mp h)).trans (if_pos hb)

theorem takeClear_accepted {g n : Byte} (h : s.checksClear g n) (hb : ¬ s.clearBlocked = true) :
    takeClear g.toNat n.toNat s = acceptClear s :=
  (if_pos (checksClear_iff.mp h)).trans (if_neg hb)

/-! ### The acceptance of a CLEAR (R154) -/

theorem driveOff_of_off (drive : s.loop.drive = false) (speed : s.loop.speed = 0) (duty : s.loop.duty = 512) :
    driveOff s = s := by
  rw [driveOff, ← drive, ← speed, ← duty]; rfl

/-- In STOPPED the brake command stands at SET, and without ASSIST the drive is off already: ending the assist, where
there is one, leaves the drive off and the brake command alone. -/
theorem endAssist_of_stopped (hs : s.seq.state = .stopped) (hfit : s.outputsFit) :
    (if s.stop.assist then endAssistRequest s else s) = driveOff s := by
  obtain ⟨hdrive, -, hrelease, hoff, -⟩ := hfit
  have brake : s.loop.brake = .set := by
    cases hb : s.loop.brake with
    | set => rfl
    | release => simpa [hs] using hrelease hb
  have drive : s.loop.drive = s.stop.assist := by rw [hdrive, State.driveWanted, hs]
  cases hassist : s.stop.assist with
  | true => exact commandBrake_same (s := driveOff s) brake
  | false =>
    have drive_off : s.loop.drive = false := drive.trans hassist
    obtain ⟨speed, duty⟩ := hoff drive_off
    exact (driveOff_of_off drive_off speed duty).symm

theorem acceptClear_eq (hs : s.seq.state = .stopped) (hfit : s.outputsFit) :
    acceptClear s = { s with
      seq := { s.seq with state := .ready, refusal := .noRefusal }
      stop := { s.stop with
        first := none, later := 0#24, category := .noStop, assist := false
        stopTimer := 0, phase := .ramping }
      loop := { s.loop with
        drive := false, duty := 512, speed := 0, sat := false, supervision := .matched, supTimer := 0 }
      creep := { reference := s.len.measured, armed := true } } := by
  rw [acceptClear, endAssist_of_stopped hs hfit]; rfl

/-! ### A delivered CLEAR -/

/-- Table 2-4 keeps a CLEAR from a console. -/
theorem keeps_clear {sender : BitVec 4} (g n : Byte) (hr : s.roleOf sender.toNat = .console) :
    s.keeps kindClear sender [g, n] = true := by
  simp only [State.keeps, hr]; rfl

theorem deliver_clear (sender : BitVec 4) (g n : Byte) (s : State) :
    deliver kindClear sender [g, n] s = takeClear g.toNat n.toNat s := rfl

theorem exec_clearFrame {sender : BitVec 4} (g n : Byte) (hq : s.quiet = true)
    (ha : s.link.assembling = true) (hr : s.roleOf sender.toNat = .console) (hn : sender.toNat ≠ s.own)
    (ho : s.seq.state.operating = true) :
    exec (.clearFrame sender [g, n]) s = .next (takeClear g.toNat n.toNat s.frameOver) :=
  external_receiveFrame_next hq ha rfl hn ho (keeps_clear g n hr)
    (takeClear_only s.frameOver g.toNat n.toNat).link

/-! ### The statements -/

/-- Settles O52, by the group that the STOP names and then by the station state it finds. -/
theorem stopFrameIsTakenByItsSender : Obligations.StopFrameIsTakenByItsSender := by
  unfold Obligations.StopFrameIsTakenByItsSender
  intro sender g code station s hq ha hr hn ho cause after
  have stop : after = .next (takeStopFrame sender.toNat g.toNat s.frameOver) :=
    exec_stopFrame g code station hq ha hr hn ho
  refine ⟨fun h0 hown => ?other, fun hg => ?addressed⟩
  case other =>
    have ignored : ¬ s.frameOver.addressed g.toNat = true := mt frameOver_addressed_iff.mp (not_or.mpr ⟨h0, hown⟩)
    rw [stop, takeStopFrame_otherGroup ignored]
  case addressed =>
    have taken : after = .next (intake cause sender.toNat s.frameOver) :=
      stop.trans (congrArg _ (takeStopFrame_addressed (frameOver_addressed_iff.mpr hg) ho))
    have controlled : cause.category = .controlled := stopFrameCause_controlled s sender.toNat
    refine ⟨fun hs hrec => ?ready, fun hs hrec => ?flight, fun hs hf => ?held⟩
    case ready => exact taken.trans (congrArg _ (intake_controlled_ready (s := s.frameOver) controlled hs hrec))
    case flight => exact taken.trans (congrArg _ (intake_controlled_inFlight (s := s.frameOver) controlled hs hrec))
    case held => exact taken.trans (congrArg _ (intake_controlled_held (s := s.frameOver) controlled hs hf))

/-- Settles O53: ignored, blocked or accepted, each by what R153 asks of the station. -/
theorem clearReturnsToReady : Obligations.ClearReturnsToReady := by
  unfold Obligations.ClearReturnsToReady
  intro sender g n s hq ha hr hn ho taken blocked
  rw [exec_clearFrame g n hq ha hr hn ho]
  refine ⟨fun h => ?ignored, fun ht hs hlock hb => ?blocked, fun ht hs hlock hb hfit => ?accepted⟩
  case ignored =>
    have unchecked : ¬ s.frameOver.checksClear g n := by
      rintro ⟨ht, hs, hlock⟩
      rcases h with not_taken | not_stopped | pending
      · exact not_taken ht
      · exact not_stopped hs
      · exact Bool.false_ne_true (hlock.symm.trans pending)
    rw [takeClear_ignored unchecked]
  case blocked =>
    have checked : s.frameOver.checksClear g n := ⟨ht, hs, hlock⟩
    rw [takeClear_blocked checked (clearBlocked_iff (s := s.frameOver).mpr hb)]; rfl
  case accepted =>
    have checked : s.frameOver.checksClear g n := ⟨ht, hs, hlock⟩
    refine ⟨acceptClear s.frameOver, ?_, ?_⟩
    · rw [takeClear_accepted checked (mt (clearBlocked_iff (s := s.frameOver)).mp hb)]
    · have only : s.changesOnly [.link, .seq, .stop, .loop, .creep] (acceptClear s.frameOver) :=
        (frameOver_only s).next (acceptClear_only _)
      rw [acceptClear_eq (s := s.frameOver) hs hfit] at only ⊢
      exact ⟨rfl, rfl, rfl, rfl, rfl, rfl, only⟩

end Sys2Proof.Machine
end

section
/-!
SUPPORT. What a command is made of, said once: `Op` lists the pieces of work that the commands put together, each with
what the part has tested before it, and `exec_effect` says that a command is a chain of them, the reset, or a chain that
ends in the acceptance of a GO or of a CLEAR. Every invariant is proved piece by piece.
-/

namespace Sys2Proof.Machine

set_option Elab.async false

/-! ### The pieces of work -/

/-- What the Peer Table's rows show apart from their ages. -/
def PeerTable.shown (x : PeerTable) : List (Nat × Nat × Option Report) :=
  x.rows.map fun r => (r.station, r.group, r.report)

/-- The slot that an attempt on `x` leaves: after a loss, a transmit error or the frame sent (Table 2-3, R32). -/
def Slot.endsAs (x y : Slot) : Prop := y = x.afterLoss ∨ y = x.afterError ∨ y = x.afterSent

/-- One piece of work on the state, with what has been tested before it. -/
inductive Op : State → State → Prop where
  -- time and the local inputs
  | elapse (s : State) (n : Nat) : Op s (elapse n s)
  | inputs (s : State) (i : StrobeInputs) : Op s (sampleInputs i s)
  | lstopEdge (s : State) : Op s (s.withStop { s.stop with localLatch := true })
  | dip (s : State) (level : Bool) : Op s ((s.withStop { s.stop with dipTimer := 0 }).withDip level)
  -- the Link Port
  | lineState (s : State) (line : LineState) (assembling : Bool) :
    Op s (s.withLink { s.link with line := line, assembling := assembling })
  | request (s : State) (k : SlotKind) (body : List Byte) (operating : s.seq.state.operating = true) :
    Op s (requestSlot k body s)
  | attempt (s : State) (k : SlotKind) (may : s.mayAttempt = true) (next : s.link.nextPending = some k) :
    Op s (s.withLink (s.attemptOn k))
  | attemptEnd (s : State) (k : SlotKind) (x : Slot) (driven : s.link.attempting = some k)
    (ends : (s.link.slot k).endsAs x) : Op s (endAttempt k x s)
  | withdraw (s : State) : Op s (withdrawMark s)
  -- the Cycle Clock and the timers
  | cycle (s : State) (count : Word16) (unsync : Bool) :
    Op s (s.withClock { s.clock with count := count, unsync := unsync, timer := 0 })
  | markRequested (s : State) : Op s (s.withClock { s.clock with markRequested := true })
  | tickStop (s : State) : Op s (tickStop s)
  | tickBrake (s : State) : Op s (tickBrake s)
  | tickListen (s : State) : Op s (tickListen s)
  -- the Peer Table, the enable record, the measuring blocks
  | peers (s : State) (x : PeerTable) (frozen : s.seq.state = .locked → x.shown = s.peers.shown) :
    Op s (s.withPeers x)
  | holds (s : State) (h : Holds) : Op s (s.withGov { s.gov with holds := h })
  | enableRecord (s : State) (rate age : Nat) (bound : age ≤ 255) :
    Op s (s.withGov { s.gov with rate := rate, enableAge := age })
  | reading (s : State) : Op s (s.withLen { s.len with reading := true })
  | read (s : State) (w : EncoderWord) (o : ReadOutcome) : Op s (s.withLen ((s.len.keepCount w).afterRead o))
  | tension (s : State) (x : Int) : Op s (tensionSampleWork x s)
  | latch (s : State) : Op s (latchTension s)
  | load (s : State) (x : LoadMonitor) : Op s (s.withLoad x)
  -- the flight sequence and the cycle computation
  | sequencer (s : State) (refusal : RefusalCode) (primeTimer : Nat) (complete : Bool)
    (operating : s.seq.state.operating = true) :
    Op s (s.withSeq { s.seq with refusal := refusal, primeTimer := primeTimer, complete := complete })
  | fly (s : State) (primed : s.seq.state = .primed) : Op s (toState .flying s)
  | park (s : State) (moving : s.seq.state = .primed ∨ s.seq.state = .flying) : Op s (enterParking s)
  | move (s : State) (stopping : Bool) (moving : s.seq.state = .flying ∨ s.seq.state = .stopping) :
    Op s (moveProgress stopping s)
  | speed (s : State) (target : Nat) (entering : Bool)
    (driven : s.seq.state = .flying ∨ s.seq.state = .stopping ∨ s.loop.drive = true) :
    Op s (speedCommand target entering s)
  | follow (s : State) : Op s (judgeFollow s)
  | settleStop (s : State) : Op s (settleTest s)
  -- causes and the brake
  | cause (s : State) (c : FaultCode) (src : Nat) : Op s (takeCause c src s)
  | duplicate (s : State) (operating : s.seq.state.operating = true) : Op s (takeDuplicate s)
  | brakeSample (s : State) (f : Feedback) : Op s (brakeSampleWork f s)
  | brakeFails (s : State) : Op s (failBrake s)
  | lock (s : State) (pending : s.stop.lockPending = true) : Op s (enterLocked s)
  -- the start-up
  | memoryRead (s : State) (waiting : s.loader.progress = .wait) : Op s (s.withLoader { s.loader with
      progress := .read, msel := true, mdo := [0x03#8, 0x00#8, 0x00#8, 0x00#8], buffer := [] })
  | fixedBytes (s : State) (bytes : List Byte) : Op s (fixedBytesWork bytes s)
  | imageRead (s : State) (bytes : List Byte) : Op s (imageReadWork bytes s)
  | imageCheck (s : State) : Op s (imageCheckWork s)
  | settleIn (s : State) : Op s (settleInEndWork s)
  | measure (s : State) : Op s (measureEndWork s)
  | settleOut (s : State) : Op s (settleOutEndWork s)
  | windowEnd (s : State) : Op s (listenWindowEndWork s)

/-- A chain of pieces of work. -/
abbrev Ops : State → State → Prop := Relation.ReflTransGen Op

variable {s t u : State}

theorem Op.ops (h : Op s t) : Ops s t := .single h

theorem Ops.of_eq (h : t = s) : Ops s t := h ▸ .refl

/-! ### What the works are made of -/

theorem beginAttempt_ops (s : State) : Ops s (beginAttempt s) := by
  unfold beginAttempt
  split
  next hm =>
    split
    next k hk => exact (Op.attempt s k hm hk).ops
    next => exact .refl
  next => exact .refl

theorem elapseUs_ops (us : Nat) (s : State) : Ops s (elapseUs us s) := (Op.elapse s _).ops

theorem raiseIf_ops (cond : Bool) (c : FaultCode) (s : State) : Ops s (raiseIf cond c s) := by
  unfold raiseIf
  split
  · exact (Op.cause s c s.own).ops
  · exact .refl

theorem raiseAll_ops (c : FaultCode) (ns : List Nat) (s : State) :
    Ops s (ns.foldl (fun t n => takeCause c n t) s) := by
  induction ns generalizing s with
  | nil => exact .refl
  | cons n ns ih => exact (Op.cause s c n).ops.trans (ih _)

theorem refuse_ops (code : RefusalCode) (h : s.seq.state.operating = true) : Ops s (refuse code s) :=
  (Op.sequencer s code s.seq.primeTimer s.seq.complete h).ops

/-! #### The arrivals -/

theorem recomputePeerStale_ops (s : State) : Ops s (recomputePeerStale s) :=
  (Op.holds s { s.gov.holds with peerStale := s.memberStale }).ops

theorem recomputeEnable_ops (s : State) : Ops s (recomputeEnable s) :=
  (Op.holds s { s.gov.holds with enable := decide (s.params.enableLimit ≤ s.gov.enableAge) }).ops

theorem lostMemberWork_ops (s : State) : Ops s (lostMemberWork s) :=
  (Op.peers s { s.peers with lostDue := [] } fun _ => rfl).ops.trans (raiseAll_ops _ _ _)

theorem primeTimeoutWork_ops (s : State) : Ops s (primeTimeoutWork s) := by
  unfold primeTimeoutWork
  split
  next h =>
    exact (refuse_ops .primeTimeout (by rw [h.1]; rfl)).trans
      (Op.park (refuse .primeTimeout s) (.inl h.1)).ops
  next => exact .refl

theorem stopOvertimeWork_ops (s : State) : Ops s (stopOvertimeWork s) := by
  unfold stopOvertimeWork
  split
  · exact (Op.cause s _ _).ops
  · exact .refl

theorem brakeExpiryWork_ops (s : State) : Ops s (brakeExpiryWork s) := by
  unfold brakeExpiryWork
  split
  · exact (Op.brakeFails s).ops
  · exact .refl

theorem slackTimeoutWork_ops (s : State) : Ops s (slackTimeoutWork s) := by
  unfold slackTimeoutWork
  split
  · exact (Op.load s _).ops.trans (Op.cause _ _ _).ops
  · exact .refl

theorem settle_ops (s : State) : Ops s (settle s) := by
  have h1 := (recomputePeerStale_ops s).trans (lostMemberWork_ops _)
  have h2 := (h1.trans (primeTimeoutWork_ops _)).trans (stopOvertimeWork_ops _)
  have h3 := (h2.trans (brakeExpiryWork_ops _)).trans (recomputeEnable_ops _)
  have h4 := (h3.trans (Op.windowEnd _).ops).trans (slackTimeoutWork_ops _)
  exact ((h4.trans (Op.settleIn _).ops).trans (Op.measure _).ops).trans (Op.settleOut _).ops

/-! #### The cycle start -/

theorem agePeers_ops (s : State) : Ops s (agePeers s) := by
  refine (Op.peers s _ fun _ => ?_).ops
  simp only [PeerTable.shown, List.map_map]
  refine List.map_congr_left fun r _ => ?_
  simp only [Function.comp_apply, State.ageRow]
  split <;> rfl

theorem tickPrime_ops (s : State) : Ops s (tickPrime s) := by
  unfold tickPrime
  split
  next h => exact (Op.sequencer s s.seq.refusal (s.seq.primeTimer + 1) s.seq.complete (by rw [h]; rfl)).ops
  next => exact .refl

theorem tickEnable_ops (s : State) : Ops s (tickEnable s) :=
  (Op.enableRecord s s.gov.rate (min 255 (s.gov.enableAge + 1)) (by omega)).ops

theorem cycleStart_ops (s : State) : Ops s (cycleStart s) := by
  have h1 := ((Op.reading s).ops.trans (Op.latch _).ops).trans (agePeers_ops _)
  have h2 := ((h1.trans (tickPrime_ops _)).trans (Op.tickStop _).ops).trans (Op.tickBrake _).ops
  exact (h2.trans (tickEnable_ops _)).trans (Op.tickListen _).ops

theorem startCycle_ops (count : Word16) (unsync : Bool) (s : State) : Ops s (startCycle count unsync s) :=
  ((Op.withdraw s).ops.trans (Op.cycle _ count unsync).ops).trans (cycleStart_ops _)

theorem takeMark_ops (carried : Word16) (s : State) : Ops s (takeMark carried s) := by
  unfold takeMark
  split
  · exact startCycle_ops _ _ _
  · exact .refl

theorem freeRunWork_ops (s : State) : Ops s (freeRunWork s) := by
  unfold freeRunWork
  split
  · exact (Op.elapse s _).ops.trans (startCycle_ops _ _ _)
  · exact .refl

theorem markDueWork_ops (s : State) : Ops s (markDueWork s) := by
  unfold markDueWork
  split
  next h =>
    simp only [State.mayRequestMark, Bool.and_eq_true] at h
    exact ((Op.elapse s _).ops.trans (Op.request (elapse _ s) .mark [] h.1.1).ops).trans (Op.markRequested _).ops
  next => exact .refl

/-! #### The strobe -/

theorem localInputs_ops (i : StrobeInputs) (s : State) : Ops s (localInputs i s) :=
  (((Op.inputs s i).ops.trans (raiseIf_ops _ _ _)).trans (raiseIf_ops _ _ _)).trans (raiseIf_ops _ _ _)

theorem strobeWork_ops (i : StrobeInputs) (localFirst : Bool) (s : State) :
    Ops s (strobeWork i localFirst s) := by
  have h := (Op.tension s i.tension.toInt).ops
  unfold strobeWork
  cases localFirst
  · exact (h.trans (Op.brakeSample _ _).ops).trans (localInputs_ops _ _)
  · exact (h.trans (localInputs_ops _ _)).trans (Op.brakeSample _ _).ops

/-! #### The length sample -/

theorem completeRead_ops (w : EncoderWord) (s : State) : Ops s (completeRead w s) := by
  have h := (Op.read s w (s.params.judgeWord w)).ops
  unfold completeRead
  dsimp only
  split
  · exact h.trans (Op.cause _ _ _).ops
  · exact h

theorem loadCheck_ops (s : State) : Ops s (loadCheck s) := by
  have h := (Op.holds s s.loadHolds).ops.trans (Op.load _ {
    slackCounter := s.slackCount
    slackDue := decide (s.seq.state = .flying) && decide (s.params.slackLimit ≤ s.slackCount) }).ops
  unfold loadCheck
  dsimp only
  split
  · exact h.trans (Op.cause _ _ _).ops
  · exact h

theorem loadMonitorAt_ops (here : CheckPoint) (s : State) : Ops s (loadMonitorAt here s) := by
  unfold loadMonitorAt
  split
  · exact loadCheck_ops s
  · exact (loadCheck_ops s).trans (slackTimeoutWork_ops _)

theorem creepCheck_ops (s : State) : Ops s (creepCheck s) := by
  unfold creepCheck
  split
  · exact (Op.cause s _ _).ops
  · exact .refl

theorem checksAt_ops (here load creep : CheckPoint) (s : State) : Ops s (checksAt here load creep s) := by
  have h : Ops s (if here = load then loadMonitorAt here s else s) := by
    split
    · exact loadMonitorAt_ops here s
    · exact .refl
  unfold checksAt
  dsimp only
  split
  · exact h.trans (creepCheck_ops _)
  · exact h

theorem primedWork_ops (s : State) : Ops s (primedWork s) := by
  unfold primedWork
  split
  next h =>
    split
    · exact (refuse_ops .airspace (by rw [h]; rfl)).trans (Op.park (refuse .airspace s) (.inl h)).ops
    · split
      · exact (Op.fly s h).ops
      · exact .refl
  next => exact .refl

theorem completionTest_ops (s : State) : Ops s (completionTest s) := by
  unfold completionTest
  split
  next h =>
    exact (Op.sequencer s s.seq.refusal s.seq.primeTimer true (by rw [h.1]; rfl)).ops.trans
      (Op.park (s.withSeq { s.seq with complete := true }) (.inr h.1)).ops
  next => exact .refl

theorem judgeTrip_ops (s : State) : Ops s (judgeTrip s) := by
  unfold judgeTrip
  split
  · exact (Op.cause s _ _).ops
  · exact .refl

theorem cycleComputation_ops (stopping entering : Bool)
    (h : s.seq.state = .flying ∨ s.seq.state = .stopping) :
    Ops s (cycleComputation stopping entering s) :=
  ((((Op.move s stopping h).ops.trans (Op.speed (moveProgress stopping s) _ entering (h.imp_right .inl)).ops)).trans
    (Op.follow _).ops).trans (judgeTrip_ops _)

theorem loopWork_ops (entering : Bool) (s : State) : Ops s (loopWork entering s) := by
  have held : Ops s (if s.loop.drive then speedCommand s.loop.target false s else s) := by
    split
    next h => exact (Op.speed s _ _ (.inr (.inr h))).ops
    next => exact .refl
  unfold loopWork
  cases h : s.seq.state with
  | flying => exact cycleComputation_ops _ _ (.inl h)
  | stopping => exact (cycleComputation_ops _ _ (.inr h)).trans (Op.settleStop _).ops
  | primed | parking | stopped => exact held
  | start | ready | locked => exact .refl

theorem composeReport_ops (s : State) : Ops s (composeReport s) := by
  unfold composeReport
  split
  next h =>
    let stored : State := s.withPeers { s.peers with rows := s.peers.rows.map (storeInRow s.own s.ownReport) }
    have store : Op s stored := .peers s _ fun hl => by rw [hl] at h; cases h
    exact store.ops.trans (Op.request stored .report _ h).ops
  next => exact .refl

theorem cycleWork_ops (load creep : CheckPoint) (s : State) : Ops s (cycleWork load creep s) := by
  have h1 := (checksAt_ops .beforeSequencer load creep s).trans (primedWork_ops _)
  have h2 := (h1.trans (checksAt_ops .beforeComputation load creep _)).trans (loopWork_ops
    ((checksAt .beforeSequencer load creep s).seq.state == .primed &&
      (primedWork (checksAt .beforeSequencer load creep s)).seq.state == .flying) _)
  have h3 := (h2.trans (checksAt_ops .beforeCompletion load creep _)).trans (completionTest_ops _)
  have h4 := (h3.trans (checksAt_ops .beforeReport load creep _)).trans (composeReport_ops _)
  exact h4.trans (checksAt_ops .afterReport load creep _)

theorem lengthSampleWork_ops (w : EncoderWord) (load creep : CheckPoint) (s : State) :
    Ops s (lengthSampleWork w load creep s) := by
  unfold lengthSampleWork
  split
  · dsimp only
    split
    · exact (completeRead_ops w s).trans (cycleWork_ops _ _ _)
    · exact completeRead_ops w s
  · exact .refl

/-! #### The end of WAIT -/

theorem elapse_progress (n : Nat) (s : State) : (elapse n s).loader.progress = s.loader.progress := by
  show (s.elapseLoader n).progress = _
  unfold State.elapseLoader
  split <;> rfl

theorem memoryReadStartWork_ops (s : State) : Ops s (memoryReadStartWork s) := by
  unfold memoryReadStartWork
  split
  next h => exact (Op.elapse s _).ops.trans (Op.memoryRead (elapse _ s) ((elapse_progress _ s).trans h)).ops
  next => exact .refl

/-! #### The line and the ends of an attempt -/

theorem endReception_ops (s : State) : Ops s (endReception s) := (Op.lineState s .busy false).ops

theorem lineIdleWork_ops (s : State) : Ops s (lineIdleWork s) := by
  unfold lineIdleWork
  split
  · exact .refl
  · exact (Op.lineState s .idle false).ops

theorem lineBusyWork_ops (s : State) : Ops s (lineBusyWork s) := by
  unfold lineBusyWork
  split
  · exact (Op.lineState s .busy true).ops
  · exact .refl

theorem frameDiscardWork_ops (why : DiscardCause) (s : State) : Ops s (frameDiscardWork why s) := by
  unfold frameDiscardWork
  split
  · cases why with
    | earlyIdle => exact lineIdleWork_ops s
    | framing | lengthAbove24 | crcMismatch => exact endReception_ops s
  · exact .refl

theorem reportStopEmpty_ops (k : SlotKind) (x : Slot) (s : State) : Ops s (reportStopEmpty k x s) := by
  unfold reportStopEmpty
  split
  next h => exact (Op.lock s h.2.2).ops
  next => exact .refl

theorem arbitrationLossWork_ops (s : State) : Ops s (arbitrationLossWork s) := by
  unfold arbitrationLossWork
  split
  next => exact .refl
  next k hk => exact (Op.attemptEnd s k _ hk (.inl rfl)).ops

theorem transmitErrorWork_ops (s : State) : Ops s (transmitErrorWork s) := by
  unfold transmitErrorWork
  split
  next => exact .refl
  next k hk =>
    have h := (Op.attemptEnd s k _ hk (.inr (.inl rfl))).ops
    dsimp only
    split
    · exact (h.trans (Op.cause _ _ _).ops).trans (reportStopEmpty_ops _ _ _)
    · exact h.trans (reportStopEmpty_ops _ _ _)

theorem acceptOwn_ops (chars : List Byte) (s : State) : Ops s (acceptOwn chars s) := by
  unfold acceptOwn
  split
  next =>
    split
    · exact takeMark_ops _ s
    · exact .refl
  next => exact .refl

theorem frameSentWork_ops (s : State) : Ops s (frameSentWork s) := by
  unfold frameSentWork
  split
  next => exact .refl
  next k hk =>
    have h := ((Op.attemptEnd s k _ hk (.inr (.inr rfl))).ops.trans (endReception_ops _)).trans
      (reportStopEmpty_ops k (s.link.slot k).afterSent _)
    exact h.trans (acceptOwn_ops _ _)

/-! #### The owners of the frames -/

theorem storeReport_ops (n : Nat) (p : Report) (h : s.seq.state ≠ .locked) : Ops s (storeReport n p s) := by
  have h' := (Op.peers s { s.peers with rows := s.peers.rows.map (storeInRow n p) }
    fun hl => absurd hl h).ops.trans (recomputePeerStale_ops _)
  unfold storeReport
  dsimp only
  split
  · exact h'.trans (Op.cause _ _ _).ops
  · exact h'

theorem takeReport_ops (n : Nat) (p : Report) (h : s.seq.state ≠ .locked) : Ops s (takeReport n p s) := by
  unfold takeReport
  split
  · exact .refl
  · split
    · exact storeReport_ops n p h
    · exact .refl

theorem takeRate_ops (g r : Nat) (s : State) : Ops s (takeRate g r s) := by
  unfold takeRate
  split
  · exact (Op.enableRecord s r 0 (by omega)).ops.trans (recomputeEnable_ops _)
  · exact .refl

theorem takeStopFrame_ops (n g : Nat) (s : State) : Ops s (takeStopFrame n g s) := by
  unfold takeStopFrame
  split
  · exact (Op.cause s _ _).ops
  · exact .refl

/-! ### What a command does -/

/-- A GO that passes the checks for cue `n` with entry `e` is accepted (R11). -/
def GoAccepted (s t : State) : Prop := ∃ n e, s.goChecks n = .ok e ∧ t = acceptGo n e s

/-- A CLEAR is accepted: in STOPPED, with no lock pending (R153, R154). -/
def ClearAccepted (s t : State) : Prop :=
  s.seq.state = .stopped ∧ s.stop.lockPending = false ∧ t = acceptClear s

theorem takeGo_effect (g n : Nat) (s : State) : Ops s (takeGo g n s) ∨ GoAccepted s (takeGo g n s) := by
  unfold takeGo
  split
  next h =>
    rw [Bool.and_eq_true] at h
    cases hc : s.goChecks n with
    | error code => exact .inl (refuse_ops code h.1)
    | ok e => exact .inr ⟨n, e, hc, rfl⟩
  next => exact .inl .refl

theorem takeClear_effect (g n : Nat) (s : State) :
    Ops s (takeClear g n s) ∨ ClearAccepted s (takeClear g n s) := by
  unfold takeClear
  split
  next h =>
    simp only [Bool.and_eq_true, beq_iff_eq, Bool.not_eq_true'] at h
    obtain ⟨⟨-, hs⟩, hl⟩ := h
    split
    · exact .inl (refuse_ops _ (by rw [hs]; rfl))
    · exact .inr ⟨hs, hl, rfl⟩
  next => exact .inl .refl

/-- What the delivery of a frame does: a chain of works, or the acceptance of a GO or a CLEAR. -/
theorem deliver_effect (kind sender : BitVec 4) (body : List Byte) (h : s.seq.state ≠ .locked) :
    Ops s (deliver kind sender body s) ∨
      (kind = kindGo ∧ GoAccepted s (deliver kind sender body s)) ∨
      (kind = kindClear ∧ ClearAccepted s (deliver kind sender body s)) := by
  unfold deliver
  split
  · exact .inl (takeMark_ops _ s)
  split
  · exact .inl (takeReport_ops _ _ h)
  split
  next hk => exact (takeGo_effect _ _ s).imp_right fun hg => .inl ⟨hk, hg⟩
  split
  · exact .inl (takeRate_ops _ _ s)
  split
  · exact .inl (takeStopFrame_ops _ _ s)
  split
  next hk => exact (takeClear_effect _ _ s).imp_right fun hc => .inr ⟨hk, hc⟩
  next => exact .inl .refl

theorem delivers_not_locked {kind : BitVec 4} (h : s.delivers kind = true) : s.seq.state ≠ .locked := by
  intro hl
  simp [State.delivers, hl, StationState.operating] at h

/-- What a command does to the state: a chain of works, or the reset, or a chain that ends in the acceptance of a GO
or of a CLEAR. -/
inductive Effect (s : State) (c : Instr) : State → Prop where
  | works {t : State} (h : Ops s t) : Effect s c t
  | reset (hc : c = .reset) : Effect s c { State.reset with dipLevel := s.dipLevel, pending := s.pending }
  | go {u t : State} (before : Ops s u) (accepted : GoAccepted u t)
    (hc : c.wf = true → ∃ sender body, c = .goFrame sender body) : Effect s c (beginAttempt t)
  | clear {u t : State} (before : Ops s u) (accepted : ClearAccepted u t)
    (hc : c.wf = true → ∃ sender body, c = .clearFrame sender body) : Effect s c (beginAttempt t)

/-- A command whose work is a chain. -/
theorem Effect.of_external {c : Instr} {f : State → State} (hf : ∀ u, Ops u (f u))
    (h : external f s = .next t) : Effect s c t := by
  rw [external_eq] at h
  cases h
  exact .works (((settle_ops s).trans (hf _)).trans (beginAttempt_ops _))

theorem Effect.of_arrival {c : Instr} {f : State → State} (hf : ∀ u, Ops u (f u))
    (h : arrival f s = .next t) : Effect s c t := by
  rw [arrival_eq] at h
  cases h
  exact .works ((hf s).trans (beginAttempt_ops _))

/-- A command that is the acceptance of a frame, some microseconds after the command before it. -/
theorem Effect.of_frame {c : Instr} (kind sender : BitVec 4) (body : List Byte) {wait : State → State}
    (hw : ∀ u, Ops u (wait u)) (h : external (fun u => receiveFrame kind sender body (wait u)) s = .next t)
    (hgo : kind = kindGo → c.wf = true → ∃ sender body, c = .goFrame sender body)
    (hclear : kind = kindClear → c.wf = true → ∃ sender body, c = .clearFrame sender body) : Effect s c t := by
  rw [external_eq] at h
  cases h
  have hu := (settle_ops s).trans (hw _)
  generalize wait (settle s) = u at hu
  unfold receiveFrame
  split
  · have he := hu.trans (endReception_ops u)
    generalize endReception u = v at he
    split
    · unfold acceptReceived
      split
      next ho =>
        rw [Bool.and_eq_true] at ho
        exact .works ((he.trans (Op.duplicate v ho.1).ops).trans (beginAttempt_ops _))
      next =>
        split
        next hk =>
          rw [Bool.and_eq_true] at hk
          rcases deliver_effect kind sender body (delivers_not_locked hk.2) with hd | ⟨rfl, hg⟩ | ⟨rfl, hc⟩
          · exact .works ((he.trans hd).trans (beginAttempt_ops _))
          · exact .go he hg (hgo rfl)
          · exact .clear he hc (hclear rfl)
        next => exact .works (he.trans (beginAttempt_ops _))
    · exact .works (he.trans (beginAttempt_ops _))
  · exact .works (hu.trans (beginAttempt_ops _))

/-- A frame of another kind than GO and CLEAR. -/
theorem Effect.of_otherFrame {c : Instr} (kind sender : BitVec 4) (body : List Byte) {wait : State → State}
    (hw : ∀ u, Ops u (wait u)) (h : external (fun u => receiveFrame kind sender body (wait u)) s = .next t)
    (hk : kind ≠ kindGo ∧ kind ≠ kindClear) : Effect s c t :=
  .of_frame kind sender body hw h (absurd · hk.1) (absurd · hk.2)

theorem exec_effect {c : Instr} (h : exec c s = .next t) : Effect s c t := by
  have now (u : State) : Ops u u := .refl
  cases c with
  | reset => cases h; exact .reset rfl
  | memoryReadStart => exact .of_external memoryReadStartWork_ops h
  | fixedBytesRead bytes => exact .of_external (fun u => (Op.fixedBytes u bytes).ops) h
  | imageReadComplete bytes => exact .of_external (fun u => (Op.imageRead u bytes).ops) h
  | imageCheckComplete => exact .of_external (fun u => (Op.imageCheck u).ops) h
  | strobe dt i localFirst =>
    exact .of_external (fun u => (elapseUs_ops dt u).trans (strobeWork_ops i localFirst _)) h
  | settleInEnd => exact .of_arrival (fun u => (Op.settleIn u).ops) h
  | measureEnd => exact .of_arrival (fun u => (Op.measure u).ops) h
  | settleOutEnd => exact .of_arrival (fun u => (Op.settleOut u).ops) h
  | listenWindowEnd => exact .of_arrival (fun u => (Op.windowEnd u).ops) h
  | markDue => exact .of_external markDueWork_ops h
  | freeRunningCycleStart => exact .of_external freeRunWork_ops h
  | peerStale => exact .of_arrival recomputePeerStale_ops h
  | lostMember => exact .of_arrival lostMemberWork_ops h
  | enableExpiry => exact .of_arrival recomputeEnable_ops h
  | primeTimeout => exact .of_arrival primeTimeoutWork_ops h
  | stopOvertime => exact .of_arrival stopOvertimeWork_ops h
  | brakeTimerExpiry => exact .of_arrival brakeExpiryWork_ops h
  | lstopEdge => exact .of_external (fun u => (Op.lstopEdge u).ops) h
  | dipActive =>
    have act (u : State) :
        Ops u (if u.dipLevel then u else (u.withStop { u.stop with dipTimer := 0 }).withDip true) := by
      split
      · exact .refl
      · exact (Op.dip u true).ops
    exact .of_external act h
  | dipInactive => exact .of_external (fun u => (Op.dip u false).ops) h
  | faultLampBlink =>
    have act (u : State) : Ops u (match u.blinkRunning with
        | some half => elapse (half - u.stop.blinkClk) u
        | none => u) := by
      split
      · exact (Op.elapse u _).ops
      · exact .refl
    exact .of_external act h
  | lengthSample w load creep => exact .of_external (lengthSampleWork_ops w load creep) h
  | slackTimeout => exact .of_arrival slackTimeoutWork_ops h
  | lineIdle => exact .of_external lineIdleWork_ops h
  | arbitrationLoss => exact .of_external arbitrationLossWork_ops h
  | transmitError => exact .of_external transmitErrorWork_ops h
  | frameSent => exact .of_external frameSentWork_ops h
  | frameDiscard why => exact .of_external (frameDiscardWork_ops why) h
  | markFrame dt sender body =>
    exact .of_otherFrame kindMark sender body (elapseUs_ops dt) h (by decide)
  | reportFrame sender body => exact .of_otherFrame kindReport sender body now h (by decide)
  | goFrame sender body => exact .of_frame kindGo sender body now h (fun _ _ => ⟨_, _, rfl⟩) (absurd · (by decide))
  | rateFrame sender body => exact .of_otherFrame kindRate sender body now h (by decide)
  | stopFrame sender body => exact .of_otherFrame kindStop sender body now h (by decide)
  | clearFrame sender body => exact .of_frame kindClear sender body now h (absurd · (by decide)) (fun _ _ => ⟨_, _, rfl⟩)
  | lineBusy => exact .of_external lineBusyWork_ops h
  | unassignedKindFrame kind sender body =>
    exact .of_frame kind sender body now h (fun hk hw => by subst hk; cases hw) (fun hk hw => by subst hk; cases hw)
  | pwmPeriodStart => exact .of_external (fun u => (Op.elapse u (pwmPeriod - u.loop.pwmPhase)).ops) h

/-! ### Invariants -/

/-- A relation that every piece of work meets, a chain meets. -/
theorem Ops.lift {R : State → State → Prop} (refl : ∀ s, R s s)
    (trans : ∀ {s t u}, R s t → R t u → R s u) (op : ∀ {s t}, Op s t → R s t) (h : Ops s t) : R s t := by
  induction h with
  | refl => exact refl s
  | tail _ last ih => exact trans ih (op last)

/-- What has to be shown of a property that every step keeps. -/
structure Kept (P : State → Prop) : Prop where
  op : ∀ {s t}, Op s t → P s → P t
  go : ∀ {s t}, GoAccepted s t → P s → P t
  clear : ∀ {s t}, ClearAccepted s t → P s → P t
  reset : ∀ (dip : Bool) (pending : List Instr), P { State.reset with dipLevel := dip, pending := pending }
  queue : ∀ {s} (pending : List Instr), P s → P (s.withPending pending)

theorem Kept.ops {P : State → Prop} (k : Kept P) (h : Ops s t) : P s → P t :=
  h.lift (R := fun s t => P s → P t) (fun _ => id) (fun h₁ h₂ => h₂ ∘ h₁) k.op

theorem Kept.exec {P : State → Prop} (k : Kept P) {c : Instr} (hs : P s) (h : exec c s = .next t) : P t := by
  cases exec_effect h with
  | works ht => exact k.ops ht hs
  | reset => exact k.reset _ _
  | go before accepted => exact k.ops (beginAttempt_ops _) (k.go accepted (k.ops before hs))
  | clear before accepted => exact k.ops (beginAttempt_ops _) (k.clear accepted (k.ops before hs))

/-- Every step keeps it: the front command of the queue, the due event, or one chip clock. -/
theorem Kept.step {P : State → Prop} (k : Kept P) (hs : P s) (h : step s = .next t) : P t := by
  unfold Machine.step takeCommand at h
  split at h
  · unfold idle at h
    split at h
    · exact k.exec hs h
    · cases h; exact k.op (Op.elapse s 1) hs
  · exact k.exec (k.queue _ hs) h

end Sys2Proof.Machine
end

section
/-!
SUPPORT. What a brake command of SET and the taking of a cause do, case by case: the forms that the invariants and the
statements about causes cite (chapters 7 and 9).
-/

namespace Sys2Proof.Machine

set_option Elab.async false

variable {s t : State}

theorem toState_self {st : StationState} (h : s.seq.state = st) : toState st s = s := by subst h; rfl

/-! ### A brake commanded SET -/

theorem brakeSetConfirmed_parking (h : s.seq.state = .parking) :
    brakeSetConfirmed s = parked (armCreep s) := by
  unfold brakeSetConfirmed; rw [h]

theorem brakeSetConfirmed_settling (h : s.seq.state = .stopping) (hp : s.stop.phase = .settling) :
    brakeSetConfirmed s = settled (armCreep s) := by
  unfold brakeSetConfirmed; rw [h]; exact if_pos hp

/-- No park and no settled stop waits for the brake. -/
def State.noStopToComplete (s : State) : Prop :=
  s.seq.state ≠ .parking ∧ ¬ (s.seq.state = .stopping ∧ s.stop.phase = .settling)

theorem noStopToComplete_of_stopped (h : s.seq.state = .stopped) : s.noStopToComplete := by
  simp [State.noStopToComplete, h]

/-- Where no park and no settled stop waits for it, a confirmation under SET is the Creep Watch's alone. -/
theorem brakeSetConfirmed_only_creep (h : s.noStopToComplete) :
    s.changesOnly [.creep] (brakeSetConfirmed s) := by
  obtain ⟨hp, hs⟩ := h
  unfold brakeSetConfirmed
  split
  next hst => exact absurd hst hp
  next hst =>
    split
    next hph => exact absurd ⟨hst, hph⟩ hs
    next => exact armCreep_only s
  next =>
    split
    · exact .refl
    · exact armCreep_only s
  all_goals exact .refl

/-- The state with SET newly commanded and its supervision standing so. -/
def State.setOn (s : State) (sup : Supervision) : State :=
  s.withLoop { s.loop with brake := .set, supervision := sup, supTimer := 0 }

/-- SET over RELEASE in operation: the brake is confirmed at once by a sample that shows it set, and waited for
otherwise (R113). -/
theorem commandBrake_set_change (hb : s.loop.brake ≠ .set) (ho : s.seq.state.operating = true) :
    commandBrake .set s =
      if s.loop.brakeSample = .set then brakeSetConfirmed (s.setOn .matched) else s.setOn .waiting := by
  rw [commandBrake_change hb ho]
  cases hs : s.loop.brakeSample
  · exact (if_pos rfl).trans ((confirmBrake_set rfl).trans (if_pos rfl).symm)
  · rfl

/-- The Line Loop with SET commanded and its supervision on it; nothing else of it changes. -/
def LineLoop.commandedSet (l : LineLoop) (t : LineLoop) : Prop :=
  t = { l with brake := .set, supervision := t.supervision, supTimer := t.supTimer }

theorem commandBrake_set_standing (h : s.noStopToComplete) :
    (commandBrake .set s).seq = s.seq ∧ s.loop.commandedSet (commandBrake .set s).loop := by
  by_cases hb : s.loop.brake = .set
  · rw [commandBrake_same hb]
    exact ⟨rfl, by unfold LineLoop.commandedSet; rw [← hb]⟩
  cases ho : s.seq.state.operating
  · rw [commandBrake_idle hb ho]
    exact ⟨rfl, rfl⟩
  · rw [commandBrake_set_change hb ho]
    split
    · have only := brakeSetConfirmed_only_creep (s := s.setOn .matched) h
      exact ⟨only.seq, by unfold LineLoop.commandedSet; rw [only.loop]; rfl⟩
    · exact ⟨rfl, rfl⟩

theorem immediateRequest_standing (h : s.noStopToComplete) :
    (immediateRequest s).seq = s.seq ∧
      LineLoop.commandedSet { s.loop with drive := false, duty := 512, speed := 0 } (immediateRequest s).loop :=
  commandBrake_set_standing (s := driveOff s) h

/-- The Line Loop at the assist target with the drive on (R118). -/
def State.assistLoop (s : State) : LineLoop :=
  { s.loop with
    assistTarget := s.assistLength, target := s.assistLength, prevTarget := s.assistLength, drive := true }

theorem assistRequest_standing (h : s.noStopToComplete) :
    (assistRequest s).seq = s.seq ∧ s.assistLoop.commandedSet (assistRequest s).loop :=
  commandBrake_set_standing (s := s.withLoop s.assistLoop) h

/-! ### The stop that a cause makes -/

/-- The state of a stop that sets the brake: STOPPED in a category. -/
def stoppedIn (cat : Category) (s : State) : State := toState .stopped (s.withStop (s.stop.enterCategory cat))

/-- What a cause of a category makes of the stop (Tables 9-3 and 9-4): nothing more where a stop is in force already,
the brake of READY, the ramp of a flight, or a stop by the brake with the drive off or on. -/
inductive StopMade (s : State) (cat : Category) : State → Prop where
  | inForce (h : s.seq.state = .stopping ∧ cat = .controlled ∨
      s.seq.state = .stopped ∧ (cat = .controlled ∨ s.stop.category = .immediate ∨
        s.stop.category = .noStop ∨ cat = .assist ∧ s.stop.category = .assist)) : StopMade s cat s
  | brakeStands (hc : cat = .controlled) (h : s.seq.state = .ready) : StopMade s cat (stoppedIn .controlled s)
  | ramps (hc : cat = .controlled) (h : s.seq.state.inFlight = true) :
    StopMade s cat (toState .stopping
      (s.withStop { s.stop.enterCategory .controlled with phase := .ramping, stopTimer := 0 }))
  | drops (hc : cat = .immediate) (h : s.seq.state = .stopped → s.stop.category ≠ .immediate) :
    StopMade s cat (immediateRequest (stoppedIn .immediate s))
  | holds (hc : cat = .assist) (h : s.seq.state = .stopped → s.stop.category = .controlled) :
    StopMade s cat (assistRequest (stoppedIn .assist s))

theorem stoppedIn_stopped (cat : Category) (h : s.seq.state = .stopped) :
    stoppedIn cat s = s.withStop (s.stop.enterCategory cat) := toState_self h

/-- A stop from STOPPED, by the category in force (Table 9-4). -/
theorem stopFromStopped_made {cat : Category} (hc : cat ≠ .noStop) (hs : s.seq.state = .stopped) :
    StopMade s cat (stopFromStopped cat s) := by
  have inForce (h : cat = .controlled ∨ s.stop.category = .immediate ∨ s.stop.category = .noStop ∨
      cat = .assist ∧ s.stop.category = .assist) : StopMade s cat s := .inForce (.inr ⟨hs, h⟩)
  unfold stopFromStopped
  cases hcat : s.stop.category with
  | noStop => cases cat <;> exact inForce (.inr (.inr (.inl hcat)))
  | immediate => cases cat <;> exact inForce (.inr (.inl hcat))
  | controlled =>
    cases cat with
    | noStop => exact absurd rfl hc
    | controlled => exact inForce (.inl rfl)
    | immediate => rw [← stoppedIn_stopped .immediate hs]; exact .drops rfl fun _ => by rw [hcat]; decide
    | assist => rw [← stoppedIn_stopped .assist hs]; exact .holds rfl fun _ => hcat
  | assist =>
    cases cat with
    | noStop => exact absurd rfl hc
    | controlled => exact inForce (.inl rfl)
    | immediate => rw [← stoppedIn_stopped .immediate hs]; exact .drops rfl fun _ => by rw [hcat]; decide
    | assist => exact inForce (.inr (.inr (.inr ⟨rfl, hcat⟩)))

theorem stopFromFlight_made {cat : Category} (hc : cat ≠ .noStop) (hs : s.seq.state.inFlight = true) :
    StopMade s cat (stopFromFlight cat s) := by
  have moving : s.seq.state ≠ .stopped := fun h => by rw [h] at hs; cases hs
  cases cat with
  | noStop => exact absurd rfl hc
  | controlled => exact .ramps rfl hs
  | immediate => exact .drops rfl fun h => absurd h moving
  | assist => exact .holds rfl fun h => absurd h moving

theorem applyStop_made {cat : Category} (hc : cat ≠ .noStop) (ho : s.seq.state.operating = true) :
    StopMade s cat (applyStop cat s) := by
  unfold applyStop
  split
  next hs =>
    have other : s.seq.state ≠ .stopped := by rw [hs]; decide
    cases cat with
    | noStop => exact absurd rfl hc
    | controlled => exact .brakeStands rfl hs
    | immediate => exact .drops rfl fun h => absurd h other
    | assist => exact .holds rfl fun h => absurd h other
  next hs => exact stopFromFlight_made hc (by rw [hs]; rfl)
  next hs => exact stopFromFlight_made hc (by rw [hs]; rfl)
  next hs => exact stopFromFlight_made hc (by rw [hs]; rfl)
  next hs =>
    have other : s.seq.state ≠ .stopped := by rw [hs]; decide
    cases cat with
    | noStop => exact absurd rfl hc
    | controlled => exact .inForce (.inl ⟨hs, rfl⟩)
    | immediate => exact .drops rfl fun h => absurd h other
    | assist => exact .holds rfl fun h => absurd h other
  next hs => exact stopFromStopped_made hc hs
  next hs => rw [hs] at ho; cases ho
  next hs => rw [hs] at ho; cases ho

theorem FaultCode.category_ne_noStop (c : FaultCode) : c.category ≠ .noStop := by cases c <;> decide

theorem intake_made (c : FaultCode) (src : Nat) (ho : s.seq.state.operating = true) :
    StopMade (s.withStop (s.stop.record c src)) c.category (intake c src s) :=
  applyStop_made c.category_ne_noStop ho

/-- Apart from the STOP frame that it may request, the taking of a cause is its intake. -/
theorem takeCause_eq_or (c : FaultCode) (src : Nat) (ho : s.seq.state.operating = true) :
    takeCause c src s = intake c src s ∨
      takeCause c src s = requestSlot .stop (stopBody s.ownGroup c.code s.own) (intake c src s) := by
  cases hc : c.sent
  · exact .inl (takeCause_unsent src ho hc)
  · rw [takeCause_sent src ho hc]
    split
    · exact .inr rfl
    · exact .inl rfl

/-- A property that does not see the Link Port holds after a cause if it holds after the stop that the cause makes. -/
theorem takeCause_induction {P : State → Prop} (link : ∀ {u : State} (x : LinkPort), P u → P (u.withLink x))
    (c : FaultCode) (src : Nat) (idle : s.seq.state.operating = false → P s)
    (made : ∀ {u}, s.seq.state.operating = true →
      StopMade (s.withStop (s.stop.record c src)) c.category u → P u) : P (takeCause c src s) := by
  cases ho : s.seq.state.operating
  · rw [takeCause_idle c src ho]; exact idle ho
  · have h := made ho (intake_made c src ho)
    rcases takeCause_eq_or c src ho with he | he <;> rw [he]
    · exact h
    · exact link _ h

end Sys2Proof.Machine
end

section
/-!
SUPPORT. What every step keeps of the fault record (chapter 9).
-/

namespace Sys2Proof.Machine

set_option Elab.async false

variable {s t : State}

/-! ### The passing of time and the park -/

/-- Time moves the dip timer and the lamp alone in the Stop Controller. -/
theorem elapse_stop (n : Nat) (s : State) : ∃ dip on clk,
    (elapse n s).stop = { s.stop with dipTimer := dip, blinkOn := on, blinkClk := clk } := by
  show ∃ dip on clk, s.elapseStop n = _
  unfold State.elapseStop
  dsimp only
  split
  · exact ⟨_, _, _, rfl⟩
  · exact ⟨_, s.stop.blinkOn, s.stop.blinkClk, rfl⟩

/-- The state in which the Line Loop takes the Park request (R20). -/
def State.parkingEntry (s : State) : State :=
  ((toState .parking s).withGov { s.gov with dPrev := 0 }).withLoop { s.loop with prevTarget := s.loop.target }

theorem enterParking_eq (s : State) : enterParking s = commandBrake .set s.parkingEntry := rfl

/-- A park passes straight through to READY where the brake still shows set (R21). -/
theorem enterParking_released (hb : s.loop.brake ≠ .set) :
    enterParking s = if s.loop.brakeSample = .set then parked (armCreep (s.parkingEntry.setOn .matched))
      else s.parkingEntry.setOn .waiting := by
  rw [enterParking_eq, commandBrake_set_change (s := s.parkingEntry) hb rfl, brakeSetConfirmed_parking rfl]; rfl

theorem enterParking_state (s : State) :
    (enterParking s).seq.state = .parking ∨ (enterParking s).seq.state = .ready := by
  by_cases hb : s.loop.brake = .set
  · rw [enterParking_eq, commandBrake_same (s := s.parkingEntry) hb]; exact .inl rfl
  · rw [enterParking_released hb]
    split
    · exact .inr rfl
    · exact .inl rfl

/-! ### The record, state by state -/

/-- START, READY, PRIMED, FLYING and PARKING, where the record is empty. -/
def StationState.outOfStop : StationState → Bool
  | .start | .ready | .primed | .flying | .parking => true
  | .stopping | .stopped | .locked => false

theorem recordFits_outOfStop (h : s.seq.state.outOfStop = true) :
    s.recordFits ↔ s.recordEmpty ∧ s.stop.lockPending = false := by
  have lock (hr : s.recordEmpty) : (s.stop.lockPending = true →
      s.stop.first.isSome = true ∧ s.seq.state = .stopped ∧ s.stop.category = .immediate) ↔
      s.stop.lockPending = false := by
    obtain ⟨hf, -⟩ := hr
    simp [hf]
  unfold State.recordFits
  cases hs : s.seq.state <;> simp only [hs] at h lock ⊢
  case start | ready | primed | flying | parking => exact and_congr_right lock
  all_goals cases h

theorem State.recordFits.empty (hs : s.recordFits) (h : s.seq.state.outOfStop = true) :
    s.recordEmpty ∧ s.stop.lockPending = false := (recordFits_outOfStop h).mp hs

theorem recordFits_stopping (h : s.seq.state = .stopping) :
    s.recordFits ↔ (s.stop.first.isSome = true ∧ s.stop.category = .controlled ∧ s.stop.assist = false) ∧
      s.stop.lockPending = false := by
  unfold State.recordFits; simp [h]

theorem recordFits_stopped (h : s.seq.state = .stopped) :
    s.recordFits ↔ (s.stop.first.isSome = true ∧ s.stop.category ≠ .noStop ∧
      (s.stop.assist = true ↔ s.stop.category = .assist)) ∧
      (s.stop.lockPending = true → s.stop.category = .immediate) := by
  unfold State.recordFits
  simp only [h, true_and]
  exact and_congr_right fun hr => imp_congr_right fun _ => and_iff_right hr.1

theorem recordFits_locked (h : s.seq.state = .locked) :
    s.recordFits ↔ (s.stop.first.isSome = true ∧ s.stop.assist = false) ∧ s.stop.lockPending = false := by
  unfold State.recordFits; simp [h]

/-- The record is read from the station state and the Stop Controller alone. -/
theorem State.recordFits.same (hs : s.recordFits) (hseq : t.seq = s.seq) (hstop : t.stop = s.stop) :
    t.recordFits := by
  unfold State.recordFits State.recordEmpty at *
  rwa [hseq, hstop]

theorem State.recordFits.lock_false (hs : s.recordFits) (h : s.seq.state ≠ .stopped) :
    s.stop.lockPending = false :=
  Bool.eq_false_iff.mpr fun hl => h (hs.2 hl).2.1

theorem State.recordFits.lock_immediate (hs : s.recordFits) (hl : s.stop.lockPending = true) :
    s.stop.category = .immediate := (hs.2 hl).2.2

/-! ### A cause in the record -/

section
variable (x : StopController) (c : FaultCode) (src : Nat)

theorem record_first_isSome : (x.record c src).first.isSome = true := by
  unfold StopController.record
  split
  · rfl
  next h => simp [h]

@[simp] theorem record_category : (x.record c src).category = x.category := by
  unfold StopController.record; split <;> rfl

@[simp] theorem record_assist : (x.record c src).assist = x.assist := by
  unfold StopController.record; split <;> rfl

@[simp] theorem record_phase : (x.record c src).phase = x.phase := by
  unfold StopController.record; split <;> rfl

@[simp] theorem record_lockPending : (x.record c src).lockPending = x.lockPending := by
  unfold StopController.record; split <;> rfl

@[simp] theorem record_lockCause : (x.record c src).lockCause = x.lockCause := by
  unfold StopController.record; split <;> rfl

@[simp] theorem record_dipTimer : (x.record c src).dipTimer = x.dipTimer := by
  unfold StopController.record; split <;> rfl

@[simp] theorem record_blinkClk : (x.record c src).blinkClk = x.blinkClk := by
  unfold StopController.record; split <;> rfl

end

/-- Where a stop that sets the brake leads: STOPPED, with the Stop Controller in the category. -/
theorem StopMade.stopped_or {cat : Category} (h : StopMade s cat t) :
    t = s ∧ (s.seq.state = .stopping ∧ cat = .controlled ∨
        s.seq.state = .stopped ∧ (cat = .immediate → s.stop.category = .immediate ∨ s.stop.category = .noStop)) ∨
      (cat = .controlled ∧ t.seq.state = .stopping ∧ s.seq.state.inFlight = true ∧ t.loop = s.loop ∧
        t.stop = { s.stop.enterCategory .controlled with phase := .ramping, stopTimer := 0 }) ∨
      (t.seq.state = .stopped ∧ t.stop = s.stop.enterCategory cat ∧ cat ≠ .noStop ∧
        (s.seq.state = .stopped → s.stop.category = .immediate → False) ∧
        (s.seq.state = .stopped → cat = .assist → s.stop.category = .controlled)) := by
  cases h with
  | inForce h =>
    refine .inl ⟨rfl, h.imp_right fun h => ⟨h.1, fun hc => ?_⟩⟩
    subst hc
    simpa using h.2
  | ramps hc h => exact .inr (.inl ⟨hc, rfl, h, rfl, rfl⟩)
  | brakeStands hc h =>
    subst hc
    exact .inr (.inr ⟨rfl, rfl, by decide, by simp [h], by simp [h]⟩)
  | drops hc h =>
    subst hc
    refine .inr (.inr ⟨?_, (immediateRequest_only _).stop, by decide, fun hs hi => h hs hi, fun _ hc => by cases hc⟩)
    rw [(immediateRequest_standing (noStopToComplete_of_stopped rfl)).1]; rfl
  | holds hc h =>
    subst hc
    refine .inr (.inr ⟨?_, (assistRequest_only _).stop, by decide, fun hs hi => ?_, fun hs _ => h hs⟩)
    · rw [(assistRequest_standing (noStopToComplete_of_stopped rfl)).1]; rfl
    · rw [h hs] at hi; cases hi

theorem StopMade.operating {cat : Category} (h : StopMade s cat t) (ho : s.seq.state.operating = true) :
    t.seq.state.operating = true := by
  rcases h.stopped_or with ⟨rfl, -⟩ | ⟨-, hs, -⟩ | ⟨hs, -⟩
  · exact ho
  · rw [hs]; rfl
  · rw [hs]; rfl

/-- A recorded cause and the stop it makes leave the record in agreement. -/
theorem State.recordFits.made {c : FaultCode} {src : Nat} {cat : Category} (hs : s.recordFits)
    (h : StopMade (s.withStop (s.stop.record c src)) cat t) : t.recordFits := by
  have opened := record_first_isSome s.stop c src
  have moving : s.seq.state ≠ .stopped → s.stop.lockPending = false := hs.lock_false
  rcases h.stopped_or with ⟨rfl, ⟨hst, -⟩ | ⟨hst, -⟩⟩ | ⟨-, hst, hfl, -, hstop⟩ | ⟨hst, hstop, hcat, hnot, hassist⟩
  · obtain ⟨⟨-, hcat, hass⟩, hlock⟩ := (recordFits_stopping (s := s) hst).mp hs
    exact (recordFits_stopping hst).mpr ⟨⟨opened, by simpa using hcat, by simpa using hass⟩, by simpa using hlock⟩
  · obtain ⟨⟨-, hcat, hass⟩, hlock⟩ := (recordFits_stopped (s := s) hst).mp hs
    exact (recordFits_stopped hst).mpr ⟨⟨opened, by simpa using hcat, by simpa using hass⟩, by simpa using hlock⟩
  · have lock : s.stop.lockPending = false :=
      moving fun h => by rw [withStop_seq, h] at hfl; cases hfl
    rw [recordFits_stopping hst, hstop]
    exact ⟨⟨opened, rfl, rfl⟩, (record_lockPending ..).trans lock⟩
  · rw [recordFits_stopped hst, hstop]
    refine ⟨⟨opened, hcat, by simp [StopController.enterCategory]⟩, fun hl => ?_⟩
    have hl' : s.stop.lockPending = true := (record_lockPending ..).symm.trans hl
    exact (hnot (hs.2 hl').2.1 ((record_category ..).trans (hs.lock_immediate hl'))).elim

theorem State.recordFits.cause (hs : s.recordFits) (c : FaultCode) (src : Nat) :
    (takeCause c src s).recordFits :=
  takeCause_induction (P := State.recordFits) (fun _ h => h) c src (fun _ => hs) fun _ h => hs.made h

theorem State.recordFits.failBrake (hs : s.recordFits) : (failBrake s).recordFits :=
  State.recordFits.cause (s := s.withLoop { s.loop with supervision := .failed }) hs _ _

/-- An immediate cause stops the station on its brake, or finds it stopped so. -/
theorem State.recordFits.immediate_stops (hs : s.recordFits)
    {c : FaultCode} {src : Nat} (h : StopMade (s.withStop (s.stop.record c src)) .immediate t) :
    t.seq.state = .stopped ∧ t.stop.category = .immediate := by
  rcases h.stopped_or with ⟨rfl, ⟨-, hc⟩ | ⟨hst, hcat⟩⟩ | ⟨hc, -⟩ | ⟨hst, hstop, -⟩
  · cases hc
  · have found := hcat rfl
    simp only [withStop_stop, record_category] at found
    obtain ⟨⟨-, hno, -⟩, -⟩ := (recordFits_stopped (s := s) hst).mp hs
    exact ⟨hst, (record_category ..).trans (found.resolve_right hno)⟩
  · cases hc
  · exact ⟨hst, by rw [hstop]; rfl⟩

/-- DUPLICATE_STATION stops the station at once, so that its lock is pending in STOPPED. -/
theorem State.recordFits.duplicate (hs : s.recordFits) (ho : s.seq.state.operating = true) :
    (takeDuplicate s).recordFits := by
  have taken := hs.cause .duplicateStation s.own
  unfold takeDuplicate
  dsimp only
  split
  · exact taken
  next hl =>
    rw [takeCause_unsent _ ho rfl] at taken ⊢
    have stopped := hs.immediate_stops (intake_made .duplicateStation s.own ho)
    generalize intake .duplicateStation s.own s = u at taken stopped ⊢
    obtain ⟨hst, hcat⟩ := stopped
    obtain ⟨fits, -⟩ := (recordFits_stopped hst).mp taken
    refine (recordFits_stopped ?_).mpr ⟨fits, fun _ => hcat⟩
    exact hst

/-! ### The brake, the end of the listen window, LOCKED -/

/-- A confirmation under SET completes a park or a settled stop; the record fits both. -/
theorem State.recordFits.brakeSetConfirmed (hs : s.recordFits) : (brakeSetConfirmed s).recordFits := by
  by_cases hp : s.seq.state = .parking
  · rw [brakeSetConfirmed_parking hp]
    exact (recordFits_outOfStop (s := parked (armCreep s)) rfl).mpr
      (hs.empty (by rw [hp]; rfl))
  by_cases hst : s.seq.state = .stopping ∧ s.stop.phase = .settling
  · rw [brakeSetConfirmed_settling hst.1 hst.2]
    obtain ⟨⟨hf, hcat, hass⟩, hlock⟩ := (recordFits_stopping hst.1).mp hs
    refine (recordFits_stopped (s := settled (armCreep s)) rfl).mpr ⟨⟨hf, ?_, ?_⟩, fun hl => ?_⟩
    · show s.stop.category ≠ .noStop
      rw [hcat]; decide
    · show s.stop.assist = true ↔ s.stop.category = .assist
      rw [hcat, hass]; decide
    · exact absurd (hlock.symm.trans hl) (by decide)
  · have only := brakeSetConfirmed_only_creep ⟨hp, hst⟩
    exact hs.same only.seq only.stop

theorem State.recordFits.commandBrake_set (hs : s.recordFits) : (commandBrake .set s).recordFits := by
  by_cases hb : s.loop.brake = .set
  · rwa [commandBrake_same hb]
  cases ho : s.seq.state.operating
  · rw [commandBrake_idle hb ho]; exact hs
  · rw [commandBrake_set_change hb ho]
    split
    · exact State.recordFits.brakeSetConfirmed (s := s.setOn .matched) hs
    · exact hs

theorem State.recordFits.confirmBrake (hs : s.recordFits) : (confirmBrake s).recordFits := by
  cases hb : s.loop.brake
  · rw [confirmBrake_set hb]
    exact State.recordFits.brakeSetConfirmed (s := s.withLoop { s.loop with supervision := .matched }) hs
  · rw [confirmBrake_release hb]; exact hs

theorem State.recordFits.brakeSample (hs : s.recordFits) (f : Feedback) : (brakeSampleWork f s).recordFits := by
  let u : State := s.withLoop { s.loop with brakeSample := f }
  have hu : u.recordFits := hs
  unfold brakeSampleWork
  dsimp only
  split
  · split
    · exact hu.confirmBrake
    · exact hu
  · split
    · exact hu
    · exact hu.failBrake
  · exact hu
  · exact hu

theorem State.recordFits.settleStop (hs : s.recordFits) : (settleTest s).recordFits := by
  unfold settleTest
  split
  next h =>
    obtain ⟨hst, -⟩ := h
    let u : State := s.withStop { s.stop with phase := .settling }
    have hu : u.recordFits :=
      (recordFits_stopping (s := u) hst).mpr ((recordFits_stopping (s := s) hst).mp hs)
    show (settleRequest u).recordFits
    unfold settleRequest
    split
    · split
      · have fits := hu.brakeSetConfirmed
        rw [brakeSetConfirmed_settling (s := u) hst rfl] at fits
        exact fits
      · exact hu
    · exact hu.commandBrake_set
  next => exact hs

/-- The loader's entry to LOCKED opens the record, whatever it held. -/
theorem lockFromLoader_recordFits (c : FaultCode) (src : Nat) (cause : LockCause) (s : State) :
    (lockFromLoader c src cause s).recordFits :=
  (recordFits_locked (s := lockFromLoader c src cause s) rfl).mpr ⟨⟨record_first_isSome s.stop c src, rfl⟩, rfl⟩

theorem State.recordFits.intake (hs : s.recordFits) (ho : s.seq.state.operating = true) (c : FaultCode)
    (src : Nat) : (intake c src s).recordFits ∧ (intake c src s).seq.state.operating = true :=
  ⟨hs.made (intake_made c src ho), (intake_made c src ho).operating ho⟩

theorem State.recordFits.windowCauses (hs : s.recordFits) (ho : s.seq.state.operating = true) :
    (windowCauses s).recordFits := by
  have first : ∀ u, u = (if s.len.lastResult = .failed then Machine.intake .encoder s.own s else s) →
      u.recordFits ∧ u.seq.state.operating = true := by
    rintro u rfl
    split
    · exact hs.intake ho _ _
    · exact ⟨hs, ho⟩
  unfold Machine.windowCauses
  dsimp only
  obtain ⟨fits, operating⟩ := first _ rfl
  split
  · exact (fits.intake operating _ _).1
  · exact fits

theorem State.recordFits.windowEnd (hs : s.recordFits) : (listenWindowEndWork s).recordFits := by
  unfold listenWindowEndWork
  split
  next h =>
    simp only [State.windowOver, Bool.and_eq_true, beq_iff_eq] at h
    let u : State := toState .ready (s.withLoader { s.loader with progress := .done })
    have hu : u.recordFits := (recordFits_outOfStop (s := u) rfl).mpr
      (hs.empty (by rw [h.1.1]; rfl))
    have only := windowBrake_only u
    exact (hu.same only.seq only.stop).windowCauses (by rw [only.seq]; rfl)
  next => exact hs

/-! ### Every piece of work -/

theorem State.recordFits.op (h : Op s t) (hs : s.recordFits) : t.recordFits := by
  cases h with
  | lstopEdge | dip | lineState | request | attempt | attemptEnd | cycle | markRequested | peers | holds
  | enableRecord | reading | read | load | move | speed | inputs | memoryRead => exact hs
  | withdraw => exact hs.same (withdrawMark_only s).seq (withdrawMark_only s).stop
  | tickBrake => exact hs.same (tickBrake_only s).seq (tickBrake_only s).stop
  | tickListen => exact hs.same (tickListen_only s).seq (tickListen_only s).stop
  | tension x => exact hs.same (tensionSampleWork_only s x).seq (tensionSampleWork_only s x).stop
  | latch => exact hs.same (latchTension_only s).seq (latchTension_only s).stop
  | follow => exact hs.same (judgeFollow_only s).seq (judgeFollow_only s).stop
  | imageRead bytes => exact hs.same (imageReadWork_only s bytes).seq (imageReadWork_only s bytes).stop
  | settleIn => exact hs.same (settleInEndWork_only s).seq (settleInEndWork_only s).stop
  | settleOut => exact hs.same (settleOutEndWork_only s).seq (settleOutEndWork_only s).stop
  | sequencer => exact hs
  | elapse n =>
    obtain ⟨dip, on, clk, hstop⟩ := elapse_stop n s
    unfold State.recordFits State.recordEmpty at *
    rw [hstop]
    exact hs
  | tickStop =>
    unfold tickStop
    split
    · exact hs
    · exact hs
  | fly primed =>
    exact (recordFits_outOfStop (s := toState .flying s) rfl).mpr
      (hs.empty (by rw [primed]; rfl))
  | park moving =>
    have before : s.seq.state.outOfStop = true := by rcases moving with h | h <;> rw [h] <;> rfl
    have after : (enterParking s).seq.state.outOfStop = true := by
      rcases enterParking_state s with h | h <;> rw [h] <;> rfl
    have hstop := (enterParking_only s).stop
    rw [recordFits_outOfStop after, State.recordEmpty, hstop]
    exact (recordFits_outOfStop before).mp hs
  | settleStop => exact hs.settleStop
  | cause c src => exact hs.cause c src
  | duplicate operating => exact hs.duplicate operating
  | brakeSample f => exact hs.brakeSample f
  | brakeFails => exact hs.failBrake
  | lock pending =>
    exact (recordFits_locked (s := enterLocked s) rfl).mpr ⟨⟨(hs.2 pending).1, rfl⟩, rfl⟩
  | fixedBytes bytes =>
    unfold fixedBytesWork
    split
    · split
      · exact lockFromLoader_recordFits _ _ _ _
      · exact hs
    · exact hs
  | imageCheck =>
    unfold imageCheckWork
    split
    · split
      · exact lockFromLoader_recordFits _ _ _ _
      · exact hs
    · exact hs
  | measure =>
    unfold measureEndWork
    split
    · dsimp only
      split
      · exact hs
      · exact lockFromLoader_recordFits _ _ _ _
    · exact hs
  | windowEnd => exact hs.windowEnd

theorem goChecks_state {n : Nat} {e : CueEntry} (h : s.goChecks n = .ok e) : s.seq.state = .ready := by
  by_contra hs
  rw [goChecks_busy hs] at h
  cases h

/-- What a passed GO finds and leaves: READY, a cue of the directory, PRIMED (R6, R7, R13). -/
theorem acceptGo_state (n : Nat) (e : CueEntry) (s : State) : (acceptGo n e s).seq.state = .primed := by
  unfold acceptGo primeRequest
  generalize hu : disarmCreep _ = u
  have hst : u.seq.state = .primed := by rw [← hu]; rfl
  by_cases hb : u.loop.brake = .release
  · rw [commandBrake_same hb, hst]
  · rw [commandBrake_release hb (by rw [hst]; rfl)]; exact hst

theorem acceptClear_stop (s : State) : (acceptClear s).stop = s.stop.cleared := by
  unfold acceptClear
  dsimp only
  split
  · exact congrArg StopController.cleared (endAssistRequest_only s).stop
  · rfl

theorem recordFits_kept : Kept State.recordFits where
  op := fun h hs => hs.op h
  go := by
    rintro s t ⟨n, e, hchecks, rfl⟩ hs
    have ready := goChecks_state hchecks
    rw [recordFits_outOfStop (by rw [acceptGo_state]; rfl), State.recordEmpty, (acceptGo_only s n e).stop]
    exact hs.empty (by rw [ready]; rfl)
  clear := by
    rintro s t ⟨-, hlock, rfl⟩ -
    rw [recordFits_outOfStop rfl, State.recordEmpty, acceptClear_stop]
    exact ⟨⟨rfl, rfl, rfl, rfl⟩, hlock⟩
  reset := fun _ _ => (recordFits_outOfStop rfl).mpr ⟨⟨rfl, rfl, rfl, rfl⟩, rfl⟩
  queue := fun _ hs => hs

/-- Settles O6, piece of work by piece of work. -/
theorem everyStepKeepsRecordFits : Obligations.EveryStepKeepsRecordFits := by
  unfold Obligations.EveryStepKeepsRecordFits
  exact fun s t hs h => recordFits_kept.step hs h

end Sys2Proof.Machine
end

section
/-!
SUPPORT. What every step keeps of the brake, the drive and the duty (chapters 1 and 7).
-/

namespace Sys2Proof.Machine

set_option Elab.async false

variable {s t : State}

theorem inFlight_iff {st : StationState} :
    st.inFlight = true ↔ st = .primed ∨ st = .flying ∨ st = .parking := by
  cases st <;> decide

/-! ### The brake command -/

theorem brakeSetConfirmed_brake (s : State) : (brakeSetConfirmed s).loop.brake = s.loop.brake := by
  unfold brakeSetConfirmed
  split
  · rfl
  · split <;> rfl
  · split <;> rfl
  all_goals rfl

theorem commandedSet_brake {l l' : LineLoop} (h : l.commandedSet l') : l'.brake = .set := by rw [h]

theorem brakeOnDrive_of_set (h : t.loop.brake = .set) : t.brakeOnDrive := fun hr => by
  rw [h] at hr; cases hr

theorem State.brakeOnDrive.same (hs : s.brakeOnDrive) (brake : t.loop.brake = s.loop.brake)
    (drive : t.loop.drive = s.loop.drive) (state : t.seq.state = s.seq.state)
    (phase : t.stop.phase = s.stop.phase) : t.brakeOnDrive := by
  unfold State.brakeOnDrive at *
  rwa [brake, drive, state, phase]

/-- Blocks that the brake invariant reads, all unchanged. -/
theorem State.brakeOnDrive.sameBlocks (hs : s.brakeOnDrive) (loop : t.loop = s.loop) (seq : t.seq = s.seq)
    (stop : t.stop = s.stop) : t.brakeOnDrive :=
  hs.same (by rw [loop]) (by rw [loop]) (by rw [seq]) (by rw [stop])

/-- Only the flight and its ramp release the brake. -/
theorem State.brakeOnDrive.brake_set (hs : s.brakeOnDrive) (hp : s.seq.state ≠ .primed)
    (hf : s.seq.state ≠ .flying) (hst : s.seq.state ≠ .stopping) : s.loop.brake = .set := by
  cases hb : s.loop.brake with
  | set => rfl
  | release =>
    rcases (hs hb).2 with h | h | h
    · exact absurd h hp
    · exact absurd h hf
    · exact absurd h.1 hst

/-! ### The brake invariant, piece by piece -/

theorem StopMade.brakeOnDrive {cat : Category} (h : StopMade s cat t) (hs : s.brakeOnDrive) :
    t.brakeOnDrive := by
  cases h with
  | inForce => exact hs
  | brakeStands hc hst => exact brakeOnDrive_of_set (hs.brake_set (by simp [hst]) (by simp [hst]) (by simp [hst]))
  | ramps hc hfl => exact fun hb => ⟨(hs hb).1, .inr (.inr ⟨rfl, rfl⟩)⟩
  | drops =>
    exact brakeOnDrive_of_set (commandedSet_brake (immediateRequest_standing (noStopToComplete_of_stopped rfl)).2)
  | holds =>
    exact brakeOnDrive_of_set (commandedSet_brake (assistRequest_standing (noStopToComplete_of_stopped rfl)).2)

theorem State.brakeOnDrive.cause (hs : s.brakeOnDrive) (c : FaultCode) (src : Nat) :
    (takeCause c src s).brakeOnDrive := by
  have recorded : (s.withStop (s.stop.record c src)).brakeOnDrive := hs.same rfl rfl rfl (record_phase ..)
  exact takeCause_induction (P := State.brakeOnDrive) (fun _ h => h) c src (fun _ => hs)
    fun _ h => h.brakeOnDrive recorded

theorem State.brakeOnDrive.failBrake (hs : s.brakeOnDrive) : (failBrake s).brakeOnDrive :=
  State.brakeOnDrive.cause (s := s.withLoop { s.loop with supervision := .failed }) hs _ _

theorem State.brakeOnDrive.duplicate (hs : s.brakeOnDrive) : (takeDuplicate s).brakeOnDrive := by
  unfold takeDuplicate
  dsimp only
  split
  · exact hs.cause _ _
  · exact hs.cause _ _

theorem State.brakeOnDrive.confirmBrake (hs : s.brakeOnDrive) : (confirmBrake s).brakeOnDrive := by
  cases hb : s.loop.brake
  · rw [confirmBrake_set hb]
    exact brakeOnDrive_of_set ((brakeSetConfirmed_brake _).trans hb)
  · rw [confirmBrake_release hb]; exact hs

theorem State.brakeOnDrive.brakeSample (hs : s.brakeOnDrive) (f : Feedback) :
    (brakeSampleWork f s).brakeOnDrive := by
  have hu : (s.withLoop { s.loop with brakeSample := f }).brakeOnDrive := hs
  unfold brakeSampleWork
  dsimp only
  split
  · split
    · exact hu.confirmBrake
    · exact hu
  · split
    · exact hu
    · exact hu.failBrake
  · exact hu
  · exact hu

theorem settleRequest_brake (s : State) : (settleRequest s).loop.brake = .set := by
  unfold settleRequest
  split
  next h =>
    split
    · exact h
    · exact h
  · exact commandBrake_brake .set s

theorem State.brakeOnDrive.windowEnd (hs : s.brakeOnDrive) : (listenWindowEndWork s).brakeOnDrive := by
  unfold listenWindowEndWork
  split
  next h =>
    simp only [State.windowOver, Bool.and_eq_true, beq_iff_eq] at h
    have brake : s.loop.brake = .set :=
      hs.brake_set (by simp [h.1.1]) (by simp [h.1.1]) (by simp [h.1.1])
    have ready : ∀ u, u = windowBrake (toState .ready (s.withLoader { s.loader with progress := .done })) →
        u.brakeOnDrive ∧ u.seq.state.operating = true := by
      rintro u rfl
      refine ⟨brakeOnDrive_of_set ?_, by rw [(windowBrake_only _).seq]; rfl⟩
      unfold windowBrake
      split <;> exact brake
    have taken {u : State} (hu : u.brakeOnDrive ∧ u.seq.state.operating = true) (c : FaultCode) (src : Nat) :
        (intake c src u).brakeOnDrive ∧ (intake c src u).seq.state.operating = true := by
      have made := intake_made c src hu.2
      exact ⟨made.brakeOnDrive (hu.1.same rfl rfl rfl (record_phase ..)), made.operating hu.2⟩
    generalize windowBrake _ = u at ready
    unfold windowCauses
    dsimp only
    have first : ∀ v, v = (if u.len.lastResult = .failed then intake .encoder u.own u else u) →
        v.brakeOnDrive ∧ v.seq.state.operating = true := by
      rintro v rfl
      split
      · exact taken (ready u rfl) _ _
      · exact ready u rfl
    split
    · exact (taken (first _ rfl) _ _).1
    · exact (first _ rfl).1
  next => exact hs

theorem State.brakeOnDrive.op (h : Op s t) (hs : s.brakeOnDrive) : t.brakeOnDrive := by
  cases h with
  | lstopEdge | dip | lineState | request | attempt | attemptEnd | cycle | markRequested | peers | holds
  | enableRecord | reading | read | load | move | speed | inputs | memoryRead | sequencer => exact hs
  | withdraw => exact hs.sameBlocks (withdrawMark_only s).loop (withdrawMark_only s).seq (withdrawMark_only s).stop
  | tickListen => exact hs.sameBlocks (tickListen_only s).loop (tickListen_only s).seq (tickListen_only s).stop
  | tension x =>
    have only := tensionSampleWork_only s x
    exact hs.sameBlocks only.loop only.seq only.stop
  | latch => exact hs.sameBlocks (latchTension_only s).loop (latchTension_only s).seq (latchTension_only s).stop
  | follow => exact hs.sameBlocks (judgeFollow_only s).loop (judgeFollow_only s).seq (judgeFollow_only s).stop
  | imageRead bytes =>
    have only := imageReadWork_only s bytes
    exact hs.sameBlocks only.loop only.seq only.stop
  | settleIn =>
    have only := settleInEndWork_only s
    exact hs.sameBlocks only.loop only.seq only.stop
  | settleOut =>
    have only := settleOutEndWork_only s
    exact hs.sameBlocks only.loop only.seq only.stop
  | elapse n =>
    obtain ⟨dip, on, clk, hstop⟩ := elapse_stop n s
    exact hs.same rfl rfl rfl (by rw [hstop])
  | tickStop =>
    unfold tickStop
    split
    · exact hs
    · exact hs
  | tickBrake =>
    unfold tickBrake
    split
    · exact hs
    · exact hs
  | fly primed => exact fun hb => ⟨(hs hb).1, .inr (.inl rfl)⟩
  | park => exact brakeOnDrive_of_set (commandBrake_brake .set _)
  | settleStop =>
    unfold settleTest
    split
    · exact brakeOnDrive_of_set (settleRequest_brake _)
    · exact hs
  | cause c src => exact hs.cause c src
  | duplicate => exact hs.duplicate
  | brakeSample f => exact hs.brakeSample f
  | brakeFails => exact hs.failBrake
  | lock => exact brakeOnDrive_of_set rfl
  | fixedBytes bytes =>
    unfold fixedBytesWork
    split
    · split
      · exact brakeOnDrive_of_set rfl
      · exact hs
    · exact hs
  | imageCheck =>
    unfold imageCheckWork
    split
    · split
      · exact brakeOnDrive_of_set rfl
      · exact hs
    · exact hs
  | measure =>
    unfold measureEndWork
    split
    · dsimp only
      split
      · exact hs
      · exact brakeOnDrive_of_set rfl
    · exact hs
  | windowEnd => exact hs.windowEnd

/-- A GO turns the drive on before it releases the brake. -/
theorem acceptGo_drive (n : Nat) (e : CueEntry) (s : State) : (acceptGo n e s).loop.drive = true := by
  unfold acceptGo primeRequest
  generalize hu : disarmCreep _ = u
  have drive : u.loop.drive = true := by rw [← hu]; rfl
  have state : u.seq.state = .primed := by rw [← hu]; rfl
  by_cases hb : u.loop.brake = .release
  · rw [commandBrake_same hb, drive]
  · rw [commandBrake_release hb (by rw [state]; rfl)]; exact drive

theorem brakeOnDrive_kept : Kept State.brakeOnDrive where
  op := fun h hs => hs.op h
  go := by
    rintro s t ⟨n, e, -, rfl⟩ -
    exact fun _ => ⟨acceptGo_drive n e s, .inl (acceptGo_state n e s)⟩
  clear := by
    rintro s t ⟨hst, -, rfl⟩ hs
    have brake : s.loop.brake = .set := hs.brake_set (by simp [hst]) (by simp [hst]) (by simp [hst])
    refine brakeOnDrive_of_set ?_
    unfold acceptClear
    dsimp only
    split
    · exact commandBrake_brake .set _
    · exact brake
  reset := fun _ _ => brakeOnDrive_of_set rfl
  queue := fun _ hs => hs

/-- Settles O4: what commands RELEASE turns the drive on, and every other stop of the line commands SET. -/
theorem everyStepKeepsBrakeOnDrive : Obligations.EveryStepKeepsBrakeOnDrive := by
  unfold Obligations.EveryStepKeepsBrakeOnDrive
  exact fun s t hs h => brakeOnDrive_kept.step hs h

/-! ### The outputs of the Line Loop -/

/-- Zero speed and duty 512 with the drive off, the duty and the one in force on SPD within 1 to 1023 (R110, R111). -/
def LineLoop.dutyFits (l : LineLoop) : Prop :=
  (l.drive = false → l.speed = 0 ∧ l.duty = 512) ∧
    1 ≤ l.duty ∧ l.duty ≤ 1023 ∧ 1 ≤ l.pwmDuty ∧ l.pwmDuty ≤ 1023

theorem State.outputsFit.drive (hs : s.outputsFit) : s.loop.drive = s.driveWanted := hs.1

theorem State.outputsFit.duty (hs : s.outputsFit) : s.loop.dutyFits := by
  obtain ⟨-, -, -, hd⟩ := hs
  exact hd

theorem State.outputsFit.brakeOnDrive (hs : s.outputsFit) : s.brakeOnDrive := by
  obtain ⟨drive, -, released, -⟩ := hs
  intro hb
  refine ⟨?_, released hb⟩
  rw [drive, State.driveWanted]
  rcases released hb with h | h | ⟨h, -⟩ <;> rw [h]

theorem State.outputsFit.released (hs : s.outputsFit) (h : s.seq.state = .primed ∨ s.seq.state = .flying) :
    s.loop.brake = .release := by
  obtain ⟨-, flight, -⟩ := hs
  exact flight h

/-- With the brake commanded SET, outside the flight, the drive and the duty are all there is. -/
theorem outputsFit_of_set (hb : t.loop.brake = .set) (hp : t.seq.state ≠ .primed) (hf : t.seq.state ≠ .flying)
    (drive : t.loop.drive = t.driveWanted) (duty : t.loop.dutyFits) : t.outputsFit :=
  ⟨drive, fun h => (h.elim hp hf).elim, fun h => absurd (hb.symm.trans h) (by decide), duty⟩

/-- The outputs are read from the station state, the Line Loop and two items of the Stop Controller. -/
theorem State.outputsFit.same (hs : s.outputsFit) (loop : t.loop = s.loop) (state : t.seq.state = s.seq.state)
    (assist : t.stop.assist = s.stop.assist) (phase : t.stop.phase = s.stop.phase) : t.outputsFit := by
  unfold State.outputsFit State.driveWanted at *
  rwa [loop, state, assist, phase]

theorem State.outputsFit.sameBlocks (hs : s.outputsFit) (loop : t.loop = s.loop) (seq : t.seq = s.seq)
    (stop : t.stop = s.stop) : t.outputsFit :=
  hs.same loop (by rw [seq]) (by rw [stop]) (by rw [stop])

theorem dutyFits_reset : LineLoop.dutyFits {} := by unfold LineLoop.dutyFits; decide

theorem dutyFits_commandedSet {l l' : LineLoop} (h : l.commandedSet l') (hl : l.dutyFits) : l'.dutyFits := by
  rw [h]; exact hl

theorem dutyFits_off {l : LineLoop} (hl : l.dutyFits) :
    LineLoop.dutyFits { l with drive := false, duty := 512, speed := 0 } := by
  obtain ⟨-, -, -, hpwm⟩ := hl
  exact ⟨fun _ => ⟨rfl, rfl⟩, (by decide : 1 ≤ 512), (by decide : 512 ≤ 1023), hpwm⟩

theorem dutyFits_on {l : LineLoop} (hl : l.dutyFits) (a b c : Nat) :
    LineLoop.dutyFits { l with assistTarget := a, target := b, prevTarget := c, drive := true } := by
  obtain ⟨-, hduty⟩ := hl
  exact ⟨(nomatch ·), hduty⟩

/-! ### The outputs, piece by piece -/

theorem StopMade.outputsFit {cat : Category} (h : StopMade s cat t) (hs : s.outputsFit) : t.outputsFit := by
  cases h with
  | inForce => exact hs
  | brakeStands hc hst =>
    have brake := hs.brakeOnDrive.brake_set (by simp [hst]) (by simp [hst]) (by simp [hst])
    have drive : s.loop.drive = false := by rw [hs.drive, State.driveWanted, hst]
    exact outputsFit_of_set brake (by simp [stoppedIn]) (by simp [stoppedIn]) drive hs.duty
  | ramps hc hfl =>
    have drive : s.loop.drive = true := by
      rw [hs.drive, State.driveWanted]
      rcases inFlight_iff.mp hfl with h | h | h <;> rw [h]
    exact ⟨drive, fun h => by simp at h, fun _ => .inr (.inr ⟨rfl, rfl⟩), hs.duty⟩
  | drops =>
    obtain ⟨hseq, hloop⟩ := immediateRequest_standing
      (noStopToComplete_of_stopped (s := stoppedIn .immediate s) rfl)
    have hstop := (immediateRequest_only (stoppedIn .immediate s)).stop
    refine outputsFit_of_set (commandedSet_brake hloop) ?_ ?_ ?_ (dutyFits_commandedSet hloop (dutyFits_off hs.duty))
    · rw [hseq]; simp [stoppedIn]
    · rw [hseq]; simp [stoppedIn]
    · rw [State.driveWanted, hseq, hstop, hloop]; rfl
  | holds =>
    obtain ⟨hseq, hloop⟩ := assistRequest_standing
      (noStopToComplete_of_stopped (s := stoppedIn .assist s) rfl)
    have hstop := (assistRequest_only (stoppedIn .assist s)).stop
    refine outputsFit_of_set (commandedSet_brake hloop) ?_ ?_ ?_ (dutyFits_commandedSet hloop (dutyFits_on hs.duty _ _ _))
    · rw [hseq]; simp [stoppedIn]
    · rw [hseq]; simp [stoppedIn]
    · rw [State.driveWanted, hseq, hstop, hloop]; rfl

theorem State.outputsFit.recorded (hs : s.outputsFit) (c : FaultCode) (src : Nat) :
    (s.withStop (s.stop.record c src)).outputsFit :=
  hs.same rfl rfl (record_assist ..) (record_phase ..)

theorem State.outputsFit.cause (hs : s.outputsFit) (c : FaultCode) (src : Nat) :
    (takeCause c src s).outputsFit :=
  takeCause_induction (P := State.outputsFit) (fun _ h => h) c src (fun _ => hs)
    fun _ h => h.outputsFit (hs.recorded c src)

theorem State.outputsFit.failBrake (hs : s.outputsFit) : (failBrake s).outputsFit :=
  State.outputsFit.cause (s := s.withLoop { s.loop with supervision := .failed }) hs _ _

theorem State.outputsFit.duplicate (hs : s.outputsFit) : (takeDuplicate s).outputsFit := by
  unfold takeDuplicate
  dsimp only
  split
  · exact hs.cause _ _
  · exact hs.cause _ _

/-- A confirmation under SET turns the drive off where it completes a park or a settled stop. -/
theorem State.outputsFit.brakeSetConfirmed (hs : s.outputsFit) (hr : s.recordFits) (hb : s.loop.brake = .set) :
    (brakeSetConfirmed s).outputsFit := by
  by_cases hp : s.seq.state = .parking
  · rw [brakeSetConfirmed_parking hp]
    exact outputsFit_of_set hb (by simp [parked]) (by simp [parked]) rfl (dutyFits_off hs.duty)
  by_cases hst : s.seq.state = .stopping ∧ s.stop.phase = .settling
  · rw [brakeSetConfirmed_settling hst.1 hst.2]
    obtain ⟨⟨-, -, assist⟩, -⟩ := (recordFits_stopping hst.1).mp hr
    exact outputsFit_of_set hb (by simp [settled]) (by simp [settled]) assist.symm (dutyFits_off hs.duty)
  · have only := brakeSetConfirmed_only_creep ⟨hp, hst⟩
    exact hs.sameBlocks only.loop only.seq only.stop

theorem State.outputsFit.confirmBrake (hs : s.outputsFit) (hr : s.recordFits) :
    (confirmBrake s).outputsFit := by
  cases hb : s.loop.brake
  · rw [confirmBrake_set hb]
    exact State.outputsFit.brakeSetConfirmed (s := s.withLoop { s.loop with supervision := .matched }) hs hr hb
  · rw [confirmBrake_release hb]; exact hs

theorem State.outputsFit.brakeSample (hs : s.outputsFit) (hr : s.recordFits) (f : Feedback) :
    (brakeSampleWork f s).outputsFit := by
  have hu : (s.withLoop { s.loop with brakeSample := f }).outputsFit := hs
  unfold brakeSampleWork
  dsimp only
  split
  · split
    · exact hu.confirmBrake hr
    · exact hu
  · split
    · exact hu
    · exact hu.failBrake
  · exact hu
  · exact hu

/-- SET over RELEASE in a state that wants the drive on. -/
theorem commandBrake_set_outputsFit (hb : s.loop.brake ≠ .set) (hr : s.recordFits)
    (ho : s.seq.state.operating = true) (hp : s.seq.state ≠ .primed) (hf : s.seq.state ≠ .flying)
    (drive : s.loop.drive = s.driveWanted) (duty : s.loop.dutyFits) : (commandBrake .set s).outputsFit := by
  have fits (sup : Supervision) : (s.setOn sup).outputsFit := outputsFit_of_set rfl hp hf drive duty
  rw [commandBrake_set_change hb ho]
  split
  · exact (fits .matched).brakeSetConfirmed hr rfl
  · exact fits .waiting

theorem State.outputsFit.park (hs : s.outputsFit) (hr : s.recordFits)
    (h : s.seq.state = .primed ∨ s.seq.state = .flying) : (enterParking s).outputsFit := by
  have drive : s.loop.drive = true := by
    rw [hs.drive, State.driveWanted]; rcases h with h | h <;> rw [h]
  have record : s.parkingEntry.recordFits := (recordFits_outOfStop (s := s.parkingEntry) rfl).mpr
    (hr.empty (by rcases h with h | h <;> rw [h] <;> rfl))
  rw [enterParking_eq]
  refine commandBrake_set_outputsFit (s := s.parkingEntry) ?_ record rfl ?_ ?_ drive hs.duty
  · show s.loop.brake ≠ .set
    rw [hs.released h]; decide
  · simp [State.parkingEntry]
  · simp [State.parkingEntry]

theorem State.outputsFit.settleStop (hs : s.outputsFit) (hr : s.recordFits) : (settleTest s).outputsFit := by
  unfold settleTest
  split
  next h =>
    obtain ⟨hst, -⟩ := h
    let u : State := s.withStop { s.stop with phase := .settling }
    have state : u.seq.state = .stopping := hst
    have record : u.recordFits :=
      (recordFits_stopping (s := u) hst).mpr ((recordFits_stopping (s := s) hst).mp hr)
    have drive : u.loop.drive = u.driveWanted := by
      rw [State.driveWanted, state]; show s.loop.drive = true; rw [hs.drive, State.driveWanted, hst]
    show (settleRequest u).outputsFit
    unfold settleRequest
    split
    next hb =>
      have fits : u.outputsFit := outputsFit_of_set hb (by simp [state]) (by simp [state]) drive hs.duty
      split
      · have settled := fits.brakeSetConfirmed record hb
        rw [brakeSetConfirmed_settling (s := u) hst rfl] at settled
        exact settled
      · exact fits
    next hb =>
      exact commandBrake_set_outputsFit hb record (by rw [state]; rfl) (by simp [state]) (by simp [state])
        drive hs.duty
  next => exact hs

/-- A speed command's duty stays within 1 to 1023, also before an image has given V_max. -/
theorem speedCommand_duty (target : Nat) (entering : Bool) (s : State) :
    1 ≤ (speedCommand target entering s).loop.duty ∧ (speedCommand target entering s).loop.duty ≤ 1023 := by
  rcases Nat.eq_zero_or_pos s.params.vMax with h | h
  · have zero (v : Int) : clampSpeed 0 v = 0 := by unfold clampSpeed; omega
    rw [speedCommand_eq]
    simp only [withLoop_loop, h, zero]
    decide
  · obtain ⟨-, -, -, -, -, -, lo, hi, -⟩ := speedCommandAndDuty target entering s h
    exact ⟨lo, hi⟩

theorem State.outputsFit.speed (hs : s.outputsFit) (target : Nat) (entering : Bool)
    (h : s.seq.state = .flying ∨ s.seq.state = .stopping ∨ s.loop.drive = true) :
    (speedCommand target entering s).outputsFit := by
  have drive : s.loop.drive = true := by
    rcases h with h | h | h
    · rw [hs.drive, State.driveWanted, h]
    · rw [hs.drive, State.driveWanted, h]
    · exact h
  obtain ⟨wanted, flight, released, -, -, -, hpwm⟩ := hs
  obtain ⟨lo, hi⟩ := speedCommand_duty target entering s
  exact ⟨wanted, flight, released, fun h => absurd (drive.symm.trans h) (by decide), lo, hi, hpwm⟩

theorem State.outputsFit.elapse (hs : s.outputsFit) (n : Nat) : (elapse n s).outputsFit := by
  obtain ⟨dip, on, clk, hstop⟩ := elapse_stop n s
  obtain ⟨wanted, flight, released, off, lo, hi, plo, phi⟩ := hs
  have duty : 1 ≤ (s.loop.elapsePwm n).pwmDuty ∧ (s.loop.elapsePwm n).pwmDuty ≤ 1023 := by
    unfold LineLoop.elapsePwm
    dsimp only
    split
    · exact ⟨lo, hi⟩
    · exact ⟨plo, phi⟩
  refine ⟨?_, flight, ?_, off, lo, hi, duty⟩
  · rw [State.driveWanted, hstop]; exact wanted
  · rw [hstop]; exact released

theorem State.outputsFit.windowEnd (hs : s.outputsFit) : (listenWindowEndWork s).outputsFit := by
  unfold listenWindowEndWork
  split
  next h =>
    simp only [State.windowOver, Bool.and_eq_true, beq_iff_eq] at h
    have brake := hs.brakeOnDrive.brake_set (by simp [h.1.1]) (by simp [h.1.1]) (by simp [h.1.1])
    have drive : s.loop.drive = false := by rw [hs.drive, State.driveWanted, h.1.1]
    have ready : ∀ u, u = windowBrake (toState .ready (s.withLoader { s.loader with progress := .done })) →
        u.outputsFit ∧ u.seq.state.operating = true := by
      rintro u rfl
      refine ⟨?_, by rw [(windowBrake_only _).seq]; rfl⟩
      unfold windowBrake
      split
      · exact outputsFit_of_set brake (by simp [armCreep]) (by simp [armCreep]) drive hs.duty
      · exact outputsFit_of_set brake (by simp) (by simp) drive hs.duty
    have taken {u : State} (hu : u.outputsFit ∧ u.seq.state.operating = true) (c : FaultCode) (src : Nat) :
        (intake c src u).outputsFit ∧ (intake c src u).seq.state.operating = true := by
      have made := intake_made c src hu.2
      exact ⟨made.outputsFit (hu.1.recorded c src), made.operating hu.2⟩
    generalize windowBrake _ = u at ready
    unfold windowCauses
    dsimp only
    have first : ∀ v, v = (if u.len.lastResult = .failed then intake .encoder u.own u else u) →
        v.outputsFit ∧ v.seq.state.operating = true := by
      rintro v rfl
      split
      · exact taken (ready u rfl) _ _
      · exact ready u rfl
    split
    · exact (taken (first _ rfl) _ _).1
    · exact (first _ rfl).1
  next => exact hs

/-- LOCKED has the drive off and the brake set. -/
theorem lockRequest_outputsFit (h : t.seq.state = .locked) (brake : t.loop.brake = .set)
    (drive : t.loop.drive = false) (duty : t.loop.dutyFits) : t.outputsFit :=
  outputsFit_of_set brake (by simp [h]) (by simp [h]) (by rw [drive, State.driveWanted, h]) duty

theorem State.outputsFit.lock (hs : s.outputsFit) : (enterLocked s).outputsFit :=
  lockRequest_outputsFit rfl rfl rfl (dutyFits_off hs.duty)

theorem State.outputsFit.lockFromLoader (hs : s.outputsFit) (c : FaultCode) (src : Nat) (cause : LockCause) :
    (lockFromLoader c src cause s).outputsFit :=
  lockRequest_outputsFit rfl rfl rfl (dutyFits_off hs.duty)

theorem State.outputsFit.op (h : Op s t) (hr : s.recordFits) (hs : s.outputsFit) : t.outputsFit := by
  cases h with
  | lstopEdge | dip | lineState | request | attempt | attemptEnd | cycle | markRequested | peers | holds
  | enableRecord | reading | read | load | move | inputs | memoryRead | sequencer => exact hs
  | withdraw => exact hs.sameBlocks (withdrawMark_only s).loop (withdrawMark_only s).seq (withdrawMark_only s).stop
  | tickListen => exact hs.sameBlocks (tickListen_only s).loop (tickListen_only s).seq (tickListen_only s).stop
  | tension x =>
    have only := tensionSampleWork_only s x
    exact hs.sameBlocks only.loop only.seq only.stop
  | latch => exact hs.sameBlocks (latchTension_only s).loop (latchTension_only s).seq (latchTension_only s).stop
  | follow => exact hs.sameBlocks (judgeFollow_only s).loop (judgeFollow_only s).seq (judgeFollow_only s).stop
  | imageRead bytes =>
    have only := imageReadWork_only s bytes
    exact hs.sameBlocks only.loop only.seq only.stop
  | settleIn =>
    have only := settleInEndWork_only s
    exact hs.sameBlocks only.loop only.seq only.stop
  | settleOut =>
    have only := settleOutEndWork_only s
    exact hs.sameBlocks only.loop only.seq only.stop
  | elapse n => exact hs.elapse n
  | tickStop =>
    unfold tickStop
    split
    · exact hs
    · exact hs
  | tickBrake =>
    unfold tickBrake
    split
    · exact hs
    · exact hs
  | fly primed =>
    have drive : s.loop.drive = true := by rw [hs.drive, State.driveWanted, primed]
    exact ⟨drive, fun _ => hs.released (.inl primed), fun _ => .inr (.inl rfl), hs.duty⟩
  | park moving => exact hs.park hr moving
  | speed target entering driven => exact hs.speed target entering driven
  | settleStop => exact hs.settleStop hr
  | cause c src => exact hs.cause c src
  | duplicate => exact hs.duplicate
  | brakeSample f => exact hs.brakeSample hr f
  | brakeFails => exact hs.failBrake
  | lock => exact hs.lock
  | fixedBytes bytes =>
    unfold fixedBytesWork
    split
    · split
      · exact State.outputsFit.lockFromLoader
          (s := s.withLoader { s.loader with buffer := bytes, msel := false }) hs _ _ _
      · exact hs
    · exact hs
  | imageCheck =>
    unfold imageCheckWork
    split
    · split
      · exact hs.lockFromLoader _ _ _
      · exact hs
    · exact hs
  | measure =>
    unfold measureEndWork
    split
    · dsimp only
      split
      · exact hs
      · exact State.outputsFit.lockFromLoader
          (s := s.withLoader { s.loader with shunt := false, shuntPhase := .settleOut, shuntCount := 0 }) hs _ _ _
    · exact hs
  | windowEnd => exact hs.windowEnd

theorem outputsFit_kept : Kept fun s => s.recordFits ∧ s.outputsFit where
  op := fun h ⟨hr, hs⟩ => ⟨hr.op h, hs.op h hr⟩
  go := by
    rintro s t hgo ⟨hr, hs⟩
    refine ⟨recordFits_kept.go hgo hr, ?_⟩
    obtain ⟨n, e, hchecks, rfl⟩ := hgo
    rw [acceptGo_eq (hs.brake_of_ready (goChecks_state hchecks))]
    obtain ⟨-, duty⟩ := hs.duty
    exact ⟨rfl, fun _ => rfl, fun _ => .inl rfl, (nomatch ·), duty⟩
  clear := by
    rintro s t hclear ⟨hr, hs⟩
    refine ⟨recordFits_kept.clear hclear hr, ?_⟩
    obtain ⟨hst, -, rfl⟩ := hclear
    have brake := hs.brakeOnDrive.brake_set (by simp [hst]) (by simp [hst]) (by simp [hst])
    rw [acceptClear_eq hst hs]
    exact outputsFit_of_set brake (nomatch ·) (nomatch ·) rfl (dutyFits_off hs.duty)
  reset := fun dip pending => ⟨recordFits_kept.reset dip pending,
    outputsFit_of_set rfl (nomatch ·) (nomatch ·) rfl dutyFits_reset⟩
  queue := fun _ hs => hs

/-- Settles O5: the record tells a settled stop and an ASSIST apart from the other stops. -/
theorem everyStepKeepsOutputsFit : Obligations.EveryStepKeepsOutputsFit := by
  unfold Obligations.EveryStepKeepsOutputsFit
  exact fun s t hr hs h => (outputsFit_kept.step ⟨hr, hs⟩ h).2

end Sys2Proof.Machine
end

section
/-!
SUPPORT. What every step keeps of the transmit slots (chapter 2).
-/

namespace Sys2Proof.Machine

set_option Elab.async false

variable {s t : State} {l : LinkPort} {x : Slot} {j k : SlotKind}

/-! ### The slots by their kind -/

theorem slot_setSlot_same (l : LinkPort) (k : SlotKind) (x : Slot) : (l.setSlot k x).slot k = x := by
  cases k <;> rfl

theorem slot_setSlot_other (l : LinkPort) (x : Slot) (h : j ≠ k) : (l.setSlot k x).slot j = l.slot j := by
  cases j with
  | stop =>
    cases k with
    | stop => exact absurd rfl h
    | mark | report => rfl
  | mark =>
    cases k with
    | mark => exact absurd rfl h
    | stop | report => rfl
  | report =>
    cases k with
    | report => exact absurd rfl h
    | stop | mark => rfl

/-- The slots are in order, and one attempt is in progress at most. -/
def LinkPort.ordered (l : LinkPort) : Prop :=
  (∀ k, (l.slot k).inOrder) ∧ ∀ j k, (l.slot j).st = .inAttempt → (l.slot k).st = .inAttempt → j = k

theorem ordered_iff : l.ordered ↔ l.stopSlot.inOrder ∧ l.markSlot.inOrder ∧ l.reportSlot.inOrder ∧
    ¬ (l.stopSlot.st = .inAttempt ∧ l.markSlot.st = .inAttempt) ∧
    ¬ (l.stopSlot.st = .inAttempt ∧ l.reportSlot.st = .inAttempt) ∧
    ¬ (l.markSlot.st = .inAttempt ∧ l.reportSlot.st = .inAttempt) := by
  constructor
  · rintro ⟨each, one⟩
    exact ⟨each .stop, each .mark, each .report, fun h => (nomatch one .stop .mark h.1 h.2),
      fun h => (nomatch one .stop .report h.1 h.2), fun h => (nomatch one .mark .report h.1 h.2)⟩
  · rintro ⟨hs, hm, hr, hsm, hsr, hmr⟩
    refine ⟨fun k => by cases k <;> assumption, fun j k hj hk => ?_⟩
    cases j <;> cases k
    · rfl
    · exact absurd ⟨hj, hk⟩ hsm
    · exact absurd ⟨hj, hk⟩ hsr
    · exact absurd ⟨hk, hj⟩ hsm
    · rfl
    · exact absurd ⟨hj, hk⟩ hmr
    · exact absurd ⟨hk, hj⟩ hsr
    · exact absurd ⟨hk, hj⟩ hmr
    · rfl

theorem slotsInOrder_iff : s.slotsInOrder ↔
    s.link.ordered ∧ (s.seq.state.operating = false → ∀ k, s.link.slot k = {}) := by
  have empties : (∀ k, s.link.slot k = {}) ↔
      s.link.stopSlot = {} ∧ s.link.markSlot = {} ∧ s.link.reportSlot = {} := by
    constructor
    · exact fun h => ⟨h .stop, h .mark, h .report⟩
    · rintro ⟨h1, h2, h3⟩ k; cases k <;> assumption
  rw [ordered_iff, empties]
  simp only [State.slotsInOrder, and_assoc]

/-- Another slot of a kind keeps the order, where it does not begin a second attempt. -/
theorem ordered_setSlot (hl : l.ordered) (hx : x.inOrder)
    (one : x.st = .inAttempt → ∀ j, j ≠ k → (l.slot j).st ≠ .inAttempt) : (l.setSlot k x).ordered := by
  obtain ⟨each, alone⟩ := hl
  have slot (j : SlotKind) : (l.setSlot k x).slot j = if j = k then x else l.slot j := by
    split
    next h => rw [h, slot_setSlot_same]
    next h => exact slot_setSlot_other l x h
  refine ⟨fun j => ?_, fun i j hi hj => ?_⟩
  · rw [slot]
    split
    · exact hx
    · exact each j
  · rw [slot] at hi hj
    by_cases hik : i = k <;> by_cases hjk : j = k
    · rw [hik, hjk]
    · rw [if_pos hik] at hi; rw [if_neg hjk] at hj; exact absurd hj (one hi j hjk)
    · rw [if_neg hik] at hi; rw [if_pos hjk] at hj; exact absurd hi (one hj i hik)
    · rw [if_neg hik] at hi; rw [if_neg hjk] at hj; exact alone i j hi hj

/-- The line, the receive assembly and the frame on the transmitter are not the slots'. -/
theorem ordered_of_slots {m : LinkPort} (hl : l.ordered) (h : ∀ k, m.slot k = l.slot k) : m.ordered := by
  obtain ⟨each, alone⟩ := hl
  exact ⟨fun k => h k ▸ each k, fun i j hi hj => alone i j (h i ▸ hi) (h j ▸ hj)⟩

theorem attempting_eq_none_iff : l.attempting = none ↔ ∀ k, (l.slot k).st ≠ .inAttempt := by
  have split : (∀ k, (l.slot k).st ≠ .inAttempt) ↔
      l.stopSlot.st ≠ .inAttempt ∧ l.markSlot.st ≠ .inAttempt ∧ l.reportSlot.st ≠ .inAttempt := by
    constructor
    · exact fun h => ⟨h .stop, h .mark, h .report⟩
    · rintro ⟨h1, h2, h3⟩ k; cases k <;> assumption
  rw [split, LinkPort.attempting]
  by_cases h1 : l.stopSlot.st = .inAttempt
  · simp [h1]
  by_cases h2 : l.markSlot.st = .inAttempt
  · simp [h1, h2]
  by_cases h3 : l.reportSlot.st = .inAttempt
  · simp [h1, h2, h3]
  · simp [h1, h2, h3]

theorem attempting_some (h : l.attempting = some k) : (l.slot k).st = .inAttempt := by
  unfold LinkPort.attempting at h
  split at h
  next h1 => cases h; exact h1
  next =>
    split at h
    next h2 => cases h; exact h2
    next =>
      split at h
      next h3 => cases h; exact h3
      next => cases h

theorem nextPending_some (h : l.nextPending = some k) : (l.slot k).st = .pending := by
  unfold LinkPort.nextPending at h
  split at h
  next h1 => cases h; exact h1
  next =>
    split at h
    next h2 => cases h; exact h2
    next =>
      split at h
      next h3 => cases h; exact h3
      next => cases h

/-! ### One slot -/

theorem empty_inOrder : Slot.inOrder {} := ⟨fun _ => rfl, by decide, fun _ => ⟨rfl, rfl⟩⟩

theorem pending_inOrder (body : List Byte) {n : Nat} (h : n < 3) :
    Slot.inOrder { st := .pending, body := body, attempts := n } :=
  ⟨(nomatch ·), h, fun _ => ⟨rfl, rfl⟩⟩

theorem request_empty (h : x.st = .empty) (body : List Byte) :
    x.request body = { st := .pending, body := body } := by unfold Slot.request; rw [h]

theorem request_pending (h : x.st = .pending) (body : List Byte) : x.request body = { x with body := body } := by
  unfold Slot.request; simp only [h]

theorem request_inAttempt (h : x.st = .inAttempt) (body : List Byte) :
    x.request body = { x with renewed := some body } := by unfold Slot.request; simp only [h]

theorem request_inOrder (hx : x.inOrder) (body : List Byte) : (x.request body).inOrder := by
  obtain ⟨-, few, fresh⟩ := hx
  cases hst : x.st with
  | empty => rw [request_empty hst]; exact pending_inOrder body (by decide)
  | pending => rw [request_pending hst]; exact ⟨fun h => (nomatch hst.symm.trans h), few, fresh⟩
  | inAttempt =>
    rw [request_inAttempt hst]
    exact ⟨fun h => (nomatch hst.symm.trans h), few, fun h => absurd hst h⟩

theorem request_attempts_on (body : List Byte) (h : (x.request body).st = .inAttempt) : x.st = .inAttempt := by
  cases hst : x.st with
  | empty => rw [request_empty hst] at h; cases h
  | pending => rw [request_pending hst] at h; exact nomatch hst.symm.trans h
  | inAttempt => rfl

theorem endsAs_inOrder {y : Slot} (hx : x.inOrder) (h : x.endsAs y) : y.inOrder ∧ y.st ≠ .inAttempt := by
  obtain ⟨-, few, -⟩ := hx
  have emptied : Slot.inOrder {} ∧ ({} : Slot).st ≠ .inAttempt := ⟨empty_inOrder, by decide⟩
  have again (body : List Byte) {n : Nat} (hn : n < 3) :
      Slot.inOrder { st := .pending, body := body, attempts := n } ∧
        ({ st := .pending, body := body, attempts := n } : Slot).st ≠ .inAttempt :=
    ⟨pending_inOrder body hn, (nomatch ·)⟩
  rcases h with rfl | rfl | rfl
  · unfold Slot.afterLoss
    split
    · exact emptied
    · exact again _ few
  · unfold Slot.afterError
    split
    · exact emptied
    · split
      next h => exact again _ h
      next => exact emptied
  · unfold Slot.afterSent
    split
    · exact emptied
    · split
      · exact again _ (by decide)
      · exact emptied

theorem withdraw_empty (h : x.st = .empty) : x.withdraw = x := by unfold Slot.withdraw; rw [h]

theorem withdraw_pending (h : x.st = .pending) : x.withdraw = {} := by unfold Slot.withdraw; rw [h]

theorem withdraw_inAttempt (h : x.st = .inAttempt) : x.withdraw = { x with withdrawn := true } := by
  unfold Slot.withdraw; simp only [h]

theorem withdraw_inOrder (hx : x.inOrder) :
    x.withdraw.inOrder ∧ (x.withdraw.st = .inAttempt → x.st = .inAttempt) ∧ (x = {} → x.withdraw = {}) := by
  cases hst : x.st with
  | empty => rw [withdraw_empty hst]; exact ⟨hx, fun h => (nomatch hst.symm.trans h), id⟩
  | pending => rw [withdraw_pending hst]; exact ⟨empty_inOrder, (nomatch ·), fun _ => rfl⟩
  | inAttempt =>
    obtain ⟨-, few, -⟩ := hx
    rw [withdraw_inAttempt hst]
    refine ⟨⟨fun h => (nomatch hst.symm.trans h), few, fun h => absurd hst h⟩, fun _ => rfl, ?_⟩
    rintro rfl
    cases hst

/-! ### The station state's part -/

theorem takeCause_operating (c : FaultCode) (src : Nat) (s : State) :
    (takeCause c src s).seq.state.operating = s.seq.state.operating :=
  takeCause_induction (P := fun t => t.seq.state.operating = s.seq.state.operating) (fun _ h => h) c src
    (fun _ => rfl) fun ho made => (made.operating ho).trans ho.symm

theorem brakeSetConfirmed_operating (s : State) :
    (brakeSetConfirmed s).seq.state.operating = s.seq.state.operating := by
  by_cases hp : s.seq.state = .parking
  · rw [brakeSetConfirmed_parking hp, hp]; rfl
  by_cases hst : s.seq.state = .stopping ∧ s.stop.phase = .settling
  · rw [brakeSetConfirmed_settling hst.1 hst.2, hst.1]; rfl
  · rw [(brakeSetConfirmed_only_creep ⟨hp, hst⟩).seq]

theorem confirmBrake_operating (s : State) :
    (confirmBrake s).seq.state.operating = s.seq.state.operating := by
  cases hb : s.loop.brake
  · rw [confirmBrake_set hb]; exact brakeSetConfirmed_operating _
  · rw [confirmBrake_release hb]; rfl

theorem commandBrake_set_operating (s : State) :
    (commandBrake .set s).seq.state.operating = s.seq.state.operating := by
  by_cases hb : s.loop.brake = .set
  · rw [commandBrake_same hb]
  cases ho : s.seq.state.operating
  · rw [commandBrake_idle hb ho]; exact ho
  · rw [commandBrake_set_change hb ho]
    split
    · exact (brakeSetConfirmed_operating _).trans ho
    · exact ho

theorem brakeSampleWork_operating (f : Feedback) (s : State) :
    (brakeSampleWork f s).seq.state.operating = s.seq.state.operating := by
  unfold brakeSampleWork
  dsimp only
  split
  · split
    · exact confirmBrake_operating _
    · rfl
  · split
    · rfl
    · exact takeCause_operating _ _ _
  · rfl
  · rfl

theorem settleTest_operating (s : State) : (settleTest s).seq.state.operating = s.seq.state.operating := by
  unfold settleTest
  split
  next h =>
    unfold settleRequest
    split
    · split
      · rw [h.1]; rfl
      · rfl
    · exact commandBrake_set_operating _
  next => rfl

/-! ### The slots, piece by piece -/

theorem State.slotsInOrder.ordered (hs : s.slotsInOrder) : s.link.ordered := (slotsInOrder_iff.mp hs).1

theorem State.slotsInOrder.empty (hs : s.slotsInOrder) (h : s.seq.state.operating = false) (k : SlotKind) :
    s.link.slot k = {} := (slotsInOrder_iff.mp hs).2 h k

theorem slotsInOrder_of_empty (h : ∀ k, s.link.slot k = {}) : s.slotsInOrder :=
  slotsInOrder_iff.mpr ⟨⟨fun k => h k ▸ empty_inOrder, fun j _ hj => by rw [h j] at hj; cases hj⟩, fun _ => h⟩

/-- Where the slots stay, an operating station must not leave operation with them. -/
theorem State.slotsInOrder.same (hs : s.slotsInOrder) (link : t.link = s.link)
    (state : t.seq.state.operating = s.seq.state.operating) : t.slotsInOrder := by
  rw [slotsInOrder_iff] at *
  rwa [link, state]

theorem State.slotsInOrder.sameBlocks (hs : s.slotsInOrder) (link : t.link = s.link) (seq : t.seq = s.seq) :
    t.slotsInOrder := hs.same link (by rw [seq])

theorem State.slotsInOrder.requested (hs : s.slotsInOrder) (k : SlotKind) (body : List Byte)
    (ho : s.seq.state.operating = true) : (requestSlot k body s).slotsInOrder := by
  refine slotsInOrder_iff.mpr ⟨?_, fun h => absurd (ho.symm.trans h) (by decide)⟩
  obtain ⟨each, alone⟩ := hs.ordered
  exact ordered_setSlot hs.ordered (request_inOrder (each k) body)
    fun h j hj hst => hj (alone j k hst (request_attempts_on body h))

theorem State.slotsInOrder.cause (hs : s.slotsInOrder) (c : FaultCode) (src : Nat) :
    (takeCause c src s).slotsInOrder := by
  cases ho : s.seq.state.operating
  · rwa [takeCause_idle c src ho]
  · have after := (intake_made c src ho).operating ho
    have taken : (intake c src s).slotsInOrder := hs.same (intake_only s c src).link (after.trans ho.symm)
    rcases takeCause_eq_or c src ho with he | he <;> rw [he]
    · exact taken
    · exact taken.requested _ _ after

theorem State.slotsInOrder.failBrake (hs : s.slotsInOrder) : (failBrake s).slotsInOrder :=
  State.slotsInOrder.cause (s := s.withLoop { s.loop with supervision := .failed }) hs _ _

theorem State.slotsInOrder.brakeSample (hs : s.slotsInOrder) (f : Feedback) :
    (brakeSampleWork f s).slotsInOrder := by
  have hu : (s.withLoop { s.loop with brakeSample := f }).slotsInOrder := hs
  unfold brakeSampleWork
  dsimp only
  split
  · split
    · exact hu.same (confirmBrake_only _).link (confirmBrake_operating _)
    · exact hu
  · split
    · exact hu
    · exact hu.failBrake
  · exact hu
  · exact hu

theorem State.slotsInOrder.duplicate (hs : s.slotsInOrder) (ho : s.seq.state.operating = true) :
    (takeDuplicate s).slotsInOrder := by
  have taken := hs.cause .duplicateStation s.own
  unfold takeDuplicate
  dsimp only
  split
  · exact taken
  · exact taken.requested _ _ ((takeCause_operating _ _ s).trans ho)

theorem State.slotsInOrder.attempt (hs : s.slotsInOrder) (may : s.mayAttempt = true)
    (next : s.link.nextPending = some k) : (s.withLink (s.attemptOn k)).slotsInOrder := by
  simp only [State.mayAttempt, Bool.and_eq_true, Option.isNone_iff_eq_none] at may
  obtain ⟨⟨ho, -⟩, free⟩ := may
  have pending := nextPending_some next
  obtain ⟨each, -⟩ := hs.ordered
  obtain ⟨-, few, -⟩ := each k
  refine slotsInOrder_iff.mpr ⟨?_, fun h => absurd (ho.symm.trans h) (by decide)⟩
  have attempt : Slot.inOrder { s.link.slot k with st := .inAttempt } :=
    ⟨(nomatch ·), few, fun h => absurd rfl h⟩
  exact ordered_of_slots (ordered_setSlot hs.ordered attempt fun _ j _ => attempting_eq_none_iff.mp free j)
    fun j => by cases j <;> rfl

theorem State.slotsInOrder.attemptEnd (hs : s.slotsInOrder) (driven : s.link.attempting = some k)
    (ends : (s.link.slot k).endsAs x) : (endAttempt k x s).slotsInOrder := by
  obtain ⟨each, -⟩ := hs.ordered
  obtain ⟨order, done⟩ := endsAs_inOrder (each k) ends
  refine slotsInOrder_iff.mpr ⟨?_, fun h => ?_⟩
  · exact ordered_of_slots (ordered_setSlot hs.ordered order fun h => absurd h done) fun j => by cases j <;> rfl
  · have none := hs.empty h k
    have att := attempting_some driven
    rw [none] at att
    cases att

theorem State.slotsInOrder.withdraw (hs : s.slotsInOrder) : (withdrawMark s).slotsInOrder := by
  unfold withdrawMark
  split
  next =>
    obtain ⟨each, alone⟩ := hs.ordered
    obtain ⟨order, on, none⟩ := withdraw_inOrder (each .mark)
    refine slotsInOrder_iff.mpr ⟨?_, fun h k => ?_⟩
    · exact ordered_setSlot (k := .mark) hs.ordered order fun h j hj hst => hj (alone j .mark hst (on h))
    · cases k with
      | mark => exact none (hs.empty h .mark)
      | stop => exact hs.empty h .stop
      | report => exact hs.empty h .report
  next => exact hs

theorem enterLocked_slots (s : State) (k : SlotKind) : (enterLocked s).link.slot k = {} := by cases k <;> rfl

theorem State.slotsInOrder.op (h : Op s t) (hs : s.slotsInOrder) : t.slotsInOrder := by
  cases h with
  | lstopEdge | dip | cycle | markRequested | peers | holds | enableRecord | reading | read | load | move | inputs
  | memoryRead | sequencer | elapse | speed | lineState => exact hs
  | request k body operating => exact hs.requested k body operating
  | attempt k may next => exact hs.attempt may next
  | attemptEnd k x driven ends => exact hs.attemptEnd driven ends
  | withdraw => exact hs.withdraw
  | tickStop => exact hs.sameBlocks (tickStop_only s).link (tickStop_only s).seq
  | tickBrake => exact hs.sameBlocks (tickBrake_only s).link (tickBrake_only s).seq
  | tickListen => exact hs.sameBlocks (tickListen_only s).link (tickListen_only s).seq
  | tension x => exact hs.sameBlocks (tensionSampleWork_only s x).link (tensionSampleWork_only s x).seq
  | latch => exact hs.sameBlocks (latchTension_only s).link (latchTension_only s).seq
  | follow => exact hs.sameBlocks (judgeFollow_only s).link (judgeFollow_only s).seq
  | imageRead bytes => exact hs.sameBlocks (imageReadWork_only s bytes).link (imageReadWork_only s bytes).seq
  | settleIn => exact hs.sameBlocks (settleInEndWork_only s).link (settleInEndWork_only s).seq
  | settleOut => exact hs.sameBlocks (settleOutEndWork_only s).link (settleOutEndWork_only s).seq
  | fly primed => exact hs.same rfl (by rw [primed]; rfl)
  | park moving =>
    refine hs.same (enterParking_only s).link ((commandBrake_set_operating s.parkingEntry).trans ?_)
    rcases moving with h | h <;> rw [h] <;> rfl
  | settleStop => exact hs.same (settleTest_only s).link (settleTest_operating s)
  | cause c src => exact hs.cause c src
  | duplicate operating => exact hs.duplicate operating
  | brakeSample f => exact hs.brakeSample f
  | brakeFails => exact hs.failBrake
  | lock => exact slotsInOrder_of_empty (enterLocked_slots s)
  | fixedBytes bytes =>
    unfold fixedBytesWork
    split
    · split
      · exact slotsInOrder_of_empty (enterLocked_slots _)
      · exact hs
    · exact hs
  | imageCheck =>
    unfold imageCheckWork
    split
    · split
      · exact slotsInOrder_of_empty (enterLocked_slots _)
      · exact hs
    · exact hs
  | measure =>
    unfold measureEndWork
    split
    · dsimp only
      split
      · exact hs
      · exact slotsInOrder_of_empty (enterLocked_slots _)
    · exact hs
  | windowEnd =>
    by_cases h : s.windowOver = true
    · have start : s.seq.state.operating = false := by
        simp only [State.windowOver, Bool.and_eq_true, beq_iff_eq] at h
        rw [h.1.1]; rfl
      refine slotsInOrder_of_empty fun k => ?_
      rw [(listenWindowEndWork_only s).link]
      exact hs.empty start k
    · rwa [listenWindowEndWork_notDue (Bool.eq_false_iff.mpr h)]

theorem slotsInOrder_kept : Kept State.slotsInOrder where
  op := fun h hs => hs.op h
  go := by
    rintro s t ⟨n, e, hchecks, rfl⟩ hs
    exact hs.same (acceptGo_only s n e).link (by rw [acceptGo_state, goChecks_state hchecks]; rfl)
  clear := by
    rintro s t ⟨hst, -, rfl⟩ hs
    exact hs.same (acceptClear_only s).link (by rw [hst]; rfl)
  reset := fun _ _ => slotsInOrder_of_empty fun k => by cases k <;> rfl
  queue := fun _ hs => hs

/-- Settles O7: an attempt begins only where none is in progress, and the slots empty with the entry to LOCKED. -/
theorem everyStepKeepsSlotsInOrder : Obligations.EveryStepKeepsSlotsInOrder := by
  unfold Obligations.EveryStepKeepsSlotsInOrder
  exact fun s t hs h => slotsInOrder_kept.step hs h

end Sys2Proof.Machine
end

section
/-!
SUPPORT. What no command but a GO, a CLEAR and the reset does: lower the commanded progress, put away the first cause,
move a station out of LOCKED (chapters 6 and 9).
-/

namespace Sys2Proof.Machine

set_option Elab.async false

variable {s t : State}

/-! ### Commanded progress (R93) -/

theorem q_le_newProgress (stopping : Bool) (s : State) : s.gov.q ≤ s.newProgress stopping := Nat.le_max_left _ _

theorem Op.q_le (h : Op s t) : s.gov.q ≤ t.gov.q := by
  cases h with
  | elapse | lstopEdge | dip | lineState | request | attempt | attemptEnd | cycle | markRequested | peers | holds
  | enableRecord | reading | read | load | sequencer | fly | speed | inputs | lock | memoryRead => exact le_rfl
  | park => exact (congrArg Governor.q (commandBrake_only s.parkingEntry .set).gov).ge
  | move stopping => exact q_le_newProgress stopping s
  | follow => unfold judgeFollow; split <;> exact le_rfl
  | withdraw => rw [(withdrawMark_only s).gov]
  | tickStop => rw [(tickStop_only s).gov]
  | tickBrake => rw [(tickBrake_only s).gov]
  | tickListen => rw [(tickListen_only s).gov]
  | tension x => rw [(tensionSampleWork_only s x).gov]
  | latch => rw [(latchTension_only s).gov]
  | settleStop => rw [(settleTest_only s).gov]
  | cause c src => rw [(takeCause_only s c src).gov]
  | duplicate => rw [(takeDuplicate_only s).gov]
  | brakeSample f => rw [(brakeSampleWork_only s f).gov]
  | brakeFails => rw [(failBrake_only s).gov]
  | fixedBytes bytes => rw [(fixedBytesWork_only s bytes).gov]
  | imageRead bytes => rw [(imageReadWork_only s bytes).gov]
  | imageCheck => rw [(imageCheckWork_only s).gov]
  | settleIn => rw [(settleInEndWork_only s).gov]
  | measure => rw [(measureEndWork_only s).gov]
  | settleOut => rw [(settleOutEndWork_only s).gov]
  | windowEnd => rw [(listenWindowEndWork_only s).gov]

theorem Ops.q_le (h : Ops s t) : s.gov.q ≤ t.gov.q :=
  h.lift (R := fun s t => s.gov.q ≤ t.gov.q) (fun _ => le_rfl) le_trans Op.q_le

theorem acceptGo_q (n : Nat) (e : CueEntry) (s : State) : (acceptGo n e s).gov.q = 0 := by
  unfold acceptGo primeRequest
  rw [(commandBrake_only _ .release).gov]; rfl

/-- Settles O11: no piece of work lowers progress, so what lowers it is the acceptance of a GO or the reset. -/
theorem commandedProgressFallsOnlyAtGoOrReset : Obligations.CommandedProgressFallsOnlyAtGoOrReset := by
  unfold Obligations.CommandedProgressFallsOnlyAtGoOrReset
  intro c s t wf h falls
  cases exec_effect h with
  | works ht => exact absurd ht.q_le (Nat.not_le.mpr falls)
  | reset hc => exact ⟨rfl, .inl hc⟩
  | go before accepted hc =>
    obtain ⟨n, e, -, rfl⟩ := accepted
    obtain ⟨sender, body, hc⟩ := hc wf
    rw [(beginAttempt_only _).gov, (beginAttempt_only _).seq]
    exact ⟨acceptGo_q n e _, .inr ⟨sender, body, hc, acceptGo_state n e _⟩⟩
  | clear before accepted =>
    obtain ⟨-, -, rfl⟩ := accepted
    rw [(beginAttempt_only _).gov, (acceptClear_only _).gov] at falls
    exact absurd before.q_le (Nat.not_le.mpr falls)

/-! ### The first cause (R139) -/

theorem record_first_of_some {x : StopController} {c : FaultCode} {src : Nat} (h : x.first.isSome = true) :
    (x.record c src).first = x.first := by
  obtain ⟨y, hy⟩ := Option.isSome_iff_exists.mp h
  unfold StopController.record
  rw [hy]

theorem StopMade.first {cat : Category} (h : StopMade s cat t) : t.stop.first = s.stop.first := by
  cases h with
  | inForce | brakeStands | ramps => rfl
  | drops => rw [(immediateRequest_only _).stop]; rfl
  | holds => rw [(assistRequest_only _).stop]; rfl

theorem intake_first (ho : s.seq.state.operating = true) {c : FaultCode} {src : Nat}
    (h : s.stop.first.isSome = true) : (intake c src s).stop.first = s.stop.first :=
  (intake_made c src ho).first.trans (record_first_of_some h)

theorem takeCause_first (c : FaultCode) (src : Nat) (h : s.stop.first.isSome = true) :
    (takeCause c src s).stop.first = s.stop.first :=
  takeCause_induction (P := fun t => t.stop.first = s.stop.first) (fun _ h => h) c src (fun _ => rfl)
    fun _ made => made.first.trans (record_first_of_some h)

theorem takeDuplicate_first (h : s.stop.first.isSome = true) : (takeDuplicate s).stop.first = s.stop.first := by
  unfold takeDuplicate
  dsimp only
  split
  · exact takeCause_first _ _ h
  · exact takeCause_first _ _ h

theorem lockFromLoader_first {c : FaultCode} {src : Nat} {cause : LockCause} (h : s.stop.first.isSome = true) :
    (lockFromLoader c src cause s).stop.first = s.stop.first := record_first_of_some h

theorem brakeSampleWork_first (f : Feedback) (h : s.stop.first.isSome = true) :
    (brakeSampleWork f s).stop.first = s.stop.first := by
  unfold brakeSampleWork
  dsimp only
  split
  · split
    · rw [(confirmBrake_only _).stop]; rfl
    · rfl
  · split
    · rfl
    · exact takeCause_first _ _ h
  · rfl
  · rfl

theorem windowCauses_first (ho : s.seq.state.operating = true) (h : s.stop.first.isSome = true) :
    (windowCauses s).stop.first = s.stop.first := by
  let u : State := if s.len.lastResult = .failed then intake .encoder s.own s else s
  have hu : u.stop.first = s.stop.first ∧ u.seq.state.operating = true := by
    show (if _ then _ else _ : State).stop.first = _ ∧ (if _ then _ else _ : State).seq.state.operating = true
    split
    · exact ⟨intake_first ho h, (intake_made _ _ ho).operating ho⟩
    · exact ⟨rfl, ho⟩
  show (if s.loop.brakeSample = .released then intake .brakeNotSet s.own u else u).stop.first = _
  split
  · exact (intake_first hu.2 (by rw [hu.1]; exact h)).trans hu.1
  · exact hu.1

theorem listenWindowEndWork_first (h : s.stop.first.isSome = true) :
    (listenWindowEndWork s).stop.first = s.stop.first := by
  unfold listenWindowEndWork
  split
  · have only := windowBrake_only (toState .ready (s.withLoader { s.loader with progress := .done }))
    rw [windowCauses_first (by rw [only.seq]; rfl) (by rw [only.stop]; exact h), only.stop]; rfl
  · rfl

theorem Op.first (h : Op s t) (hs : s.stop.first.isSome = true) : t.stop.first = s.stop.first := by
  cases h with
  | lstopEdge | dip | lineState | request | attempt | attemptEnd | cycle | markRequested | peers | holds
  | enableRecord | reading | read | load | sequencer | fly | move | speed | inputs | lock | memoryRead => rfl
  | elapse n =>
    obtain ⟨dip, on, clk, hstop⟩ := elapse_stop n s
    rw [hstop]
  | park => rw [(enterParking_only s).stop]
  | follow => rw [(judgeFollow_only s).stop]
  | withdraw => rw [(withdrawMark_only s).stop]
  | tickStop => unfold Machine.tickStop; split <;> rfl
  | tickBrake => rw [(tickBrake_only s).stop]
  | tickListen => rw [(tickListen_only s).stop]
  | tension x => rw [(tensionSampleWork_only s x).stop]
  | latch => rw [(latchTension_only s).stop]
  | settleStop =>
    unfold settleTest
    split
    · rw [(settleRequest_only _).stop]; rfl
    · rfl
  | cause c src => exact takeCause_first c src hs
  | duplicate => exact takeDuplicate_first hs
  | brakeSample f => exact brakeSampleWork_first f hs
  | brakeFails => exact takeCause_first _ _ hs
  | fixedBytes bytes =>
    unfold fixedBytesWork
    split
    · split
      · exact lockFromLoader_first hs
      · rfl
    · rfl
  | imageRead bytes => rw [(imageReadWork_only s bytes).stop]
  | imageCheck =>
    unfold imageCheckWork
    split
    · split
      · exact lockFromLoader_first hs
      · rfl
    · rfl
  | settleIn => rw [(settleInEndWork_only s).stop]
  | measure =>
    unfold measureEndWork
    split
    · dsimp only
      split
      · rfl
      · exact lockFromLoader_first hs
    · rfl
  | settleOut => rw [(settleOutEndWork_only s).stop]
  | windowEnd => exact listenWindowEndWork_first hs

theorem Ops.first (h : Ops s t) (hs : s.stop.first.isSome = true) : t.stop.first = s.stop.first :=
  h.lift (R := fun s t => s.stop.first.isSome = true → t.stop.first = s.stop.first) (fun _ _ => rfl)
    (fun h₁ h₂ hs => (h₂ (by rw [h₁ hs]; exact hs)).trans (h₁ hs)) Op.first hs

/-- Settles O12: a cause taken later joins the later-fault set, and only an accepted CLEAR and the reset empty the
record. -/
theorem firstCauseStandsUntilClearOrReset : Obligations.FirstCauseStandsUntilClearOrReset := by
  unfold Obligations.FirstCauseStandsUntilClearOrReset
  intro c s t wf h hs
  cases exec_effect h with
  | works ht => exact .inl (ht.first hs)
  | reset hc => exact .inr ⟨rfl, .inl hc⟩
  | go before accepted =>
    obtain ⟨n, e, -, rfl⟩ := accepted
    rw [(beginAttempt_only _).stop, (acceptGo_only _ n e).stop]
    exact .inl (before.first hs)
  | clear before accepted hc =>
    obtain ⟨-, -, rfl⟩ := accepted
    obtain ⟨sender, body, hc⟩ := hc wf
    rw [(beginAttempt_only _).stop, (beginAttempt_only _).seq, acceptClear_stop]
    exact .inr ⟨rfl, .inr ⟨sender, body, hc, rfl⟩⟩

/-! ### LOCKED (R4, R35, R157) -/

theorem brakeSetConfirmed_idle (h : s.seq.state.operating = false) : brakeSetConfirmed s = s := by
  unfold brakeSetConfirmed
  cases hs : s.seq.state with
  | start | locked => rfl
  | ready | primed | flying | parking | stopping | stopped => cases hs ▸ h

/-- In START and LOCKED a strobe's brake feedback is the Line Loop's alone: no cause is taken, no stop completed. -/
theorem brakeSampleWork_idle (f : Feedback) (h : s.seq.state.operating = false) :
    ∃ sup, brakeSampleWork f s = s.withLoop { s.loop with brakeSample := f, supervision := sup } := by
  have confirmed (u : State) (hu : u.seq.state.operating = false) :
      confirmBrake u = u.withLoop { u.loop with supervision := .matched } := by
    unfold confirmBrake
    cases u.loop.brake
    · exact brakeSetConfirmed_idle hu
    · rfl
  unfold brakeSampleWork
  dsimp only
  split
  next waiting =>
    split
    · exact ⟨.matched, confirmed _ h⟩
    · exact ⟨.waiting, by rw [← waiting]⟩
  next matched =>
    split
    · exact ⟨.matched, by rw [← matched]⟩
    · exact ⟨.failed, takeCause_idle _ _ h⟩
  next idle => exact ⟨.idle, by rw [← idle]⟩
  next failed => exact ⟨.failed, by rw [← failed]⟩

/-- A station in LOCKED with the loader's work over, the drive off, the brake set and nothing to send. -/
def State.frozen (s : State) : Prop :=
  s.seq.state = .locked ∧ (s.loader.progress = .done ∨ s.loader.progress = .failed) ∧
    s.loop.drive = false ∧ s.loop.brake = .set ∧ ∀ k, s.link.slot k = {}

/-- What LOCKED freezes, the same in both states. -/
def State.frozenAs (s t : State) : Prop :=
  t.seq = s.seq ∧ t.stop.first = s.stop.first ∧ t.stop.later = s.stop.later ∧ t.stop.category = s.stop.category ∧
    t.stop.lockCause = s.stop.lockCause ∧ t.stop.stopTimer = s.stop.stopTimer ∧ t.peers.shown = s.peers.shown ∧
    t.path = s.path ∧ t.params = s.params ∧ t.creep = s.creep

theorem State.frozenAs.refl : s.frozenAs s := ⟨rfl, rfl, rfl, rfl, rfl, rfl, rfl, rfl, rfl, rfl⟩

theorem State.frozenAs.trans {u : State} (h₁ : s.frozenAs t) (h₂ : t.frozenAs u) : s.frozenAs u := by
  unfold State.frozenAs at *
  obtain ⟨seq, first, later, category, cause, timer, shown, path, params, creep⟩ := h₁
  rwa [seq, first, later, category, cause, timer, shown, path, params, creep] at h₂

/-- A work that touches nothing of what LOCKED freezes. -/
theorem State.frozen.same (hs : s.frozen) (link : t.link = s.link) (peers : t.peers = s.peers) (path : t.path = s.path)
    (seq : t.seq = s.seq) (drive : t.loop.drive = s.loop.drive) (brake : t.loop.brake = s.loop.brake)
    (creep : t.creep = s.creep) (stop : t.stop = s.stop) (progress : t.loader.progress = s.loader.progress)
    (params : t.params = s.params) : t.frozen ∧ s.frozenAs t := by
  unfold State.frozen State.frozenAs
  rw [link, peers, path, seq, drive, brake, creep, stop, progress, params]
  exact ⟨hs, rfl, rfl, rfl, rfl, rfl, rfl, rfl, rfl, rfl, rfl⟩

theorem State.frozen.itself (hs : s.frozen) : s.frozen ∧ s.frozenAs s := ⟨hs, .refl⟩

theorem Op.frozen (h : Op s t) (hs : s.frozen) : t.frozen ∧ s.frozenAs t := by
  obtain ⟨locked, progress, drive, brake, slots⟩ := id hs
  have idle : s.seq.state.operating = false := by rw [locked]; rfl
  have busy {p : LoadProgress} (h : s.loader.progress = p) (hd : p ≠ .done) (hf : p ≠ .failed) : False :=
    progress.elim (fun hp => hd (h.symm.trans hp)) (fun hp => hf (h.symm.trans hp))
  have phase_over (p : ShuntPhase) : ¬ s.shuntPhaseOver p = true := fun h => by
    rw [State.shuntPhaseOver, Bool.and_eq_true, Bool.and_eq_true, beq_iff_eq] at h
    exact busy h.1.1 (by decide) (by decide)
  cases h with
  | lstopEdge | dip | cycle | markRequested | holds | enableRecord | reading | read | load | inputs | move =>
    exact hs.itself
  | request k body operating => rw [idle] at operating; cases operating
  | sequencer refusal timer complete operating => rw [idle] at operating; cases operating
  | duplicate operating => rw [idle] at operating; cases operating
  | attempt k may => rw [State.mayAttempt, idle] at may; cases may
  | attemptEnd k x driven => exact absurd (attempting_some driven) (by rw [slots k]; exact fun h => nomatch h)
  | fly primed => rw [locked] at primed; cases primed
  | park moving => rw [locked] at moving; rcases moving with h | h <;> cases h
  | speed target entering driven =>
    rw [locked, drive] at driven
    rcases driven with h | h | h <;> cases h
  | lineState =>
    refine ⟨⟨locked, progress, drive, brake, fun k => ?_⟩, State.frozenAs.refl⟩
    cases k with
    | stop => exact slots .stop
    | mark => exact slots .mark
    | report => exact slots .report
  | peers x shown => exact ⟨hs, rfl, rfl, rfl, rfl, rfl, rfl, shown locked, rfl, rfl, rfl⟩
  | elapse n =>
    obtain ⟨dip, on, clk, hstop⟩ := elapse_stop n s
    refine ⟨⟨locked, by rw [elapse_progress]; exact progress, drive, brake, slots⟩, ?_⟩
    unfold State.frozenAs
    rw [hstop]
    exact ⟨rfl, rfl, rfl, rfl, rfl, rfl, rfl, rfl, rfl, rfl⟩
  | withdraw =>
    unfold withdrawMark
    split
    · have mark : s.link.markSlot.withdraw = {} := by rw [show s.link.markSlot = {} from slots .mark]; rfl
      rw [mark]
      exact ⟨⟨locked, progress, drive, brake,
        fun k => by cases k <;> [exact slots .stop; rfl; exact slots .report]⟩, State.frozenAs.refl⟩
    · exact hs.itself
  | tickStop => rw [Machine.tickStop, if_neg (by rw [locked]; decide)]; exact hs.itself
  | tickBrake => unfold Machine.tickBrake; split <;> exact hs.itself
  | tickListen =>
    rw [Machine.tickListen, if_neg (fun h => busy h (by decide) (by decide))]; exact hs.itself
  | tension x =>
    unfold tensionSampleWork
    split
    · have count : s.loader.countSample x = s.loader := if_neg fun h => busy h (by decide) (by decide)
      rw [count]
      exact hs.itself
    · exact hs.itself
  | latch => unfold latchTension; split <;> exact hs.itself
  | follow => unfold judgeFollow; split <;> exact hs.itself
  | settleStop => rw [settleTest, if_neg (fun h => by rw [locked] at h; cases h.1)]; exact hs.itself
  | cause c src => rw [takeCause_idle c src idle]; exact hs.itself
  | brakeSample f =>
    obtain ⟨sup, he⟩ := brakeSampleWork_idle f idle
    rw [he]; exact hs.itself
  | brakeFails =>
    rw [failBrake, takeCause_idle _ _ (by exact idle)]; exact hs.itself
  | lock =>
    have seq : (toState .locked s).seq = s.seq := congrArg State.seq (toState_self locked)
    exact ⟨⟨rfl, progress, rfl, rfl, enterLocked_slots s⟩, seq, rfl, rfl, rfl, rfl, rfl, rfl, rfl, rfl, rfl⟩
  | memoryRead waiting => exact (busy waiting (by decide) (by decide)).elim
  | fixedBytes bytes =>
    rw [fixedBytesWork, if_neg (fun h => busy h.1 (by decide) (by decide))]; exact hs.itself
  | imageRead bytes => rw [imageReadWork, if_neg (fun h => busy h.1 (by decide) (by decide))]; exact hs.itself
  | imageCheck => rw [imageCheckWork, if_neg (fun h => busy h (by decide) (by decide))]; exact hs.itself
  | settleIn => rw [settleInEndWork, if_neg (phase_over .settleIn)]; exact hs.itself
  | measure => rw [measureEndWork, if_neg (phase_over .measure)]; exact hs.itself
  | settleOut => rw [settleOutEndWork, if_neg (phase_over .settleOut)]; exact hs.itself
  | windowEnd =>
    rw [listenWindowEndWork_notDue (by rw [State.windowOver, locked]; rfl)]; exact hs.itself

theorem Ops.frozen (h : Ops s t) (hs : s.frozen) : t.frozen ∧ s.frozenAs t :=
  h.lift (R := fun s t => s.frozen → t.frozen ∧ s.frozenAs t) (fun _ hs => hs.itself)
    (fun h₁ h₂ hs => ⟨(h₂ (h₁ hs).1).1, (h₁ hs).2.trans (h₂ (h₁ hs).1).2⟩) Op.frozen hs

theorem frozen_of_locked (locked : s.seq.state = .locked)
    (progress : s.loader.progress = .done ∨ s.loader.progress = .failed) (outputs : s.outputsFit)
    (slots : s.slotsInOrder) : s.frozen := by
  have off : s.driveWanted = false := by unfold State.driveWanted; rw [locked]
  refine ⟨locked, progress, outputs.drive.trans off, ?_, slots.empty (by rw [locked]; rfl)⟩
  exact outputs.brakeOnDrive.brake_set (by simp [locked]) (by simp [locked]) (by simp [locked])

theorem State.frozen.linkDriven (hs : s.frozen) : s.linkDriven = false := by
  obtain ⟨-, -, -, -, slots⟩ := hs
  have none : s.link.attempting = none := attempting_eq_none_iff.mpr fun k => by
    rw [slots k]; exact fun h => nomatch h
  rw [State.linkDriven, none]; rfl

/-- Settles O13: every command but the reset is a chain of works that leave a frozen station as it is. -/
theorem lockedIsLeftOnlyAtReset : Obligations.LockedIsLeftOnlyAtReset := by
  unfold Obligations.LockedIsLeftOnlyAtReset
  intro c s t h hc locked progress outputs slots
  have frozen := frozen_of_locked locked progress outputs slots
  cases exec_effect h with
  | reset reset => exact absurd reset hc
  | go before accepted =>
    obtain ⟨n, e, hchecks, rfl⟩ := accepted
    have state := (before.frozen frozen).1.1
    rw [goChecks_state hchecks] at state
    cases state
  | clear before accepted =>
    have state := (before.frozen frozen).1.1
    rw [accepted.1] at state
    cases state
  | works ht =>
    obtain ⟨after, seq, first, later, category, cause, timer, shown, path, params, creep⟩ := ht.frozen frozen
    have driven := after.linkDriven
    obtain ⟨-, -, drive, brake, empty⟩ := after
    exact ⟨seq, first, later, category, cause, timer, drive, by rw [State.brkrel, brake]; rfl, driven,
      empty .stop, empty .mark, empty .report, shown, path, params, creep⟩

end Sys2Proof.Machine
end

section
/-!
SUPPORT. The share of a segment, the line target and the group's cap as arithmetic; the rows of the Peer Table and the
cue timing fingerprint (chapters 4 to 7).
-/

namespace Sys2Proof.Machine

set_option Elab.async false

variable {s : State}

/-! ### The EASE share (R103) -/

/-- Dividing the product of two fractions does not pass either of them. -/
theorem fraction_mul_le {a u : Nat} (hu : u ≤ 65536) : a * u / 65536 ≤ a :=
  Nat.div_le_of_le_mul (by nlinarith)

/-- The two truncated powers of the fraction in the share's formula. -/
def easeSquare (u : Nat) : Nat := u * u / 65536

def easeCube (u : Nat) : Nat := easeSquare u * u / 65536

theorem easeCube_le_square {u : Nat} (hu : u ≤ 65536) : easeCube u ≤ easeSquare u := fraction_mul_le hu

theorem share_ease (u : Nat) : share .ease u = min (3 * easeSquare u - 2 * easeCube u) 65536 := rfl

theorem easeSquare_le {u : Nat} (hu : u ≤ 65536) : easeSquare u ≤ u := fraction_mul_le hu

theorem easeSquare_mono (u : Nat) : easeSquare u ≤ easeSquare (u + 1) :=
  Nat.div_le_div_right (by nlinarith)

/-- One step of the fraction raises the cube by the square's rise and one more at most. -/
theorem easeCube_succ_le {u : Nat} (hu : u < 65536) :
    easeCube (u + 1) + easeSquare u ≤ easeCube u + easeSquare (u + 1) + 1 := by
  have square : easeSquare u < 65536 := (easeSquare_le hu.le).trans_lt hu
  have rise := easeSquare_mono u
  obtain ⟨d, hd⟩ := Nat.exists_eq_add_of_le rise
  have cube : easeCube (u + 1) * 65536 ≤ easeSquare (u + 1) * (u + 1) := Nat.div_mul_le_self _ _
  have before : easeSquare u * u < (easeCube u + 1) * 65536 := by
    have := Nat.lt_div_mul_add (a := easeSquare u * u) (b := 65536) (by decide)
    show easeSquare u * u < (easeSquare u * u / 65536 + 1) * 65536
    omega
  rw [hd] at cube ⊢
  have within : d * (u + 1) ≤ d * 65536 := Nat.mul_le_mul_left d hu
  have expand : (easeSquare u + d) * (u + 1) = easeSquare u * u + easeSquare u + d * (u + 1) := by ring
  omega

theorem share_ease_succ {u : Nat} (hu : u < 65536) : share .ease u ≤ share .ease (u + 1) + 2 := by
  rw [share_ease, share_ease]
  have := easeCube_succ_le hu
  have := easeSquare_mono u
  have := easeCube_le_square hu.le
  have := easeCube_le_square (u := u + 1) hu
  omega

/-- The formula of R103 in the integers: the clamp at 0 never acts, since the cube does not pass the square. -/
theorem share_ease_toInt {u : Nat} (hu : u ≤ 65536) : ((share .ease u : Nat) : Int) =
    max 0 (min 65536 (3 * ((u * u / 65536 : Nat) : Int) - 2 * ((u * u / 65536 * u / 65536 : Nat) : Int))) := by
  have h := easeCube_le_square hu
  rw [share_ease]
  show ((min (3 * easeSquare u - 2 * easeCube u) 65536 : Nat) : Int) =
    max 0 (min 65536 (3 * (easeSquare u : Int) - 2 * (easeCube u : Int)))
  omega

theorem share_ease_last {u : Nat} (hlo : 65534 ≤ u) (hhi : u ≤ 65536) : share .ease u = 65536 := by
  interval_cases u <;> rfl

/-! ### The line target (R104) -/

/-- The offset of the target from the segment's start, floored, lies between no change and the whole change. -/
theorem targetOffset_between {d : Int} {f : Nat} (hf : f ≤ 65536) :
    min 0 d ≤ (d * f + 32768) / 65536 ∧ (d * f + 32768) / 65536 ≤ max 0 d := by
  rcases le_total 0 d with hd | hd
  · have : 0 ≤ d * f := by positivity
    have : d * f ≤ d * 65536 := mul_le_mul_of_nonneg_left (by omega) hd
    omega
  · have : d * f ≤ 0 := mul_nonpos_of_nonpos_of_nonneg hd (by omega)
    have : d * 65536 ≤ d * f := mul_le_mul_of_nonpos_left (by omega) hd
    omega

theorem lineTarget_toInt {la lb f : Nat} (hf : f ≤ 65536) : ((lineTarget la lb f : Nat) : Int) =
    (la : Int) + (((lb : Int) - (la : Int)) * (f : Int) + 32768) / 65536 := by
  have := targetOffset_between (d := (lb : Int) - la) hf
  unfold lineTarget
  omega

theorem lineTarget_between {la lb f : Nat} (hf : f ≤ 65536) :
    min la lb ≤ lineTarget la lb f ∧ lineTarget la lb f ≤ max la lb := by
  have := targetOffset_between (d := (lb : Int) - la) hf
  have := lineTarget_toInt (la := la) (lb := lb) hf
  omega

theorem lineTarget_zero (la lb : Nat) : lineTarget la lb 0 = la := by
  have := lineTarget_toInt (la := la) (lb := lb) (Nat.zero_le 65536)
  omega

theorem lineTarget_full (la lb : Nat) : lineTarget la lb 65536 = lb := by
  have := lineTarget_toInt (la := la) (lb := lb) (le_refl 65536)
  omega

theorem lineTarget_dwell {l f : Nat} (hf : f ≤ 65536) : lineTarget l l f = l := by
  have := lineTarget_between (la := l) (lb := l) hf
  omega

theorem currentEntry_some {e : CueEntry} (h : s.path.entry s.gov.cue = some e) : s.currentEntry = e := by
  rw [State.currentEntry, h]; rfl

theorem recordAt_some {p : PathStore} {i : Nat} {g : Segment} (h : p.segments[i]? = some g) :
    p.recordAt i = g := by
  rw [PathStore.recordAt, List.getD_eq_getElem?_getD, h]; rfl

/-- The target of the current cue, from its start length on segment 0 and from the record before on a later one
(R74, R81). -/
theorem targetAt_eq {e : CueEntry} {k q : Nat} {g : Segment} (he : s.path.entry s.gov.cue = some e)
    (hg : s.path.segments[e.f + k]? = some g) :
    s.targetAt k q = lineTarget (s.path.startLength e k) g.lb (share g.profile (q - k * 65536)) := by
  simp only [State.targetAt, PathStore.cueSegment, currentEntry_some he, recordAt_some hg]

/-- Settles O18, clause by clause. -/
theorem shareAndLineTarget : Obligations.ShareAndLineTarget := by
  unfold Obligations.ShareAndLineTarget
  refine ⟨fun _ => rfl, fun u => share_ease_toInt, fun u _ => Nat.min_le_right _ _, fun u => share_ease_succ,
    rfl, rfl, fun u => share_ease_last, fun la lb f hf => ?target, fun s e k q g he hg => ?cue⟩
  case target =>
    obtain ⟨above, below⟩ := lineTarget_between (la := la) (lb := lb) hf
    exact ⟨lineTarget_toInt hf, above, below, lineTarget_zero la lb, lineTarget_full la lb, lineTarget_dwell hf⟩
  case cue =>
    rw [targetAt_eq he hg]
    refine ⟨fun hk => by subst hk; rfl, fun before hk hb => ?_⟩
    rw [PathStore.startLength, if_neg hk.ne', recordAt_some hb]

/-- Refutes O19: from the fraction 1638 to 1639 the truncated cube rises and the truncated square stays, so the share
falls. -/
theorem not_easeShareNeverFalls : ¬ Obligations.EaseShareNeverFalls := by
  unfold Obligations.EaseShareNeverFalls
  exact fun h => absurd (h 1638 1639 (by decide) (by decide)) (by decide)

/-! ### The cue timing fingerprint (R79, R80) -/

/-- The bytes of a cue hold its timing and nothing else. -/
theorem cueBytes_congr {p p' : PathStore} {c : Nat} {e e' : CueEntry} (he : p.entry c = some e)
    (he' : p'.entry c = some e') (hn : e.n = e'.n)
    (timing : ∀ j, j < e.n → (p.cueSegment e j).t = (p'.cueSegment e' j).t ∧
      (p.cueSegment e j).profile = (p'.cueSegment e' j).profile) : p.cueBytes c = p'.cueBytes c := by
  simp only [PathStore.cueBytes, he, he', ← hn]
  congr 1
  refine List.flatMap_congr fun j hj => ?_
  obtain ⟨duration, profile⟩ := timing j (List.mem_range.mp hj)
  rw [duration, profile]

theorem bytes2_append_profile (t : Nat) (p : Profile) : bytes2 t ++ [p.byte] =
    [BitVec.ofNat 8 (t / 256), BitVec.ofNat 8 t, if p = .linear then 0#8 else 1#8] := by
  cases p <;> rfl

/-- Settles O17: the sequence as the definition forms it, and cue by cue the same bytes. -/
theorem fingerprintIsTheCrcOfTheTiming : Obligations.FingerprintIsTheCrcOfTheTiming := by
  unfold Obligations.FingerprintIsTheCrcOfTheTiming
  refine ⟨fun p roster => congrArg (fun bytes => crc16 (roster ++ bytes)) ?_, fun p p' roster same => ?_⟩
  · refine List.flatMap_congr fun c _ => ?_
    unfold PathStore.cueBytes
    cases p.entry c with
    | none => rfl
    | some e => exact congrArg _ (List.flatMap_congr fun j _ => bytes2_append_profile _ _)
  · have cues : (List.range 32).flatMap p.cueBytes = (List.range 32).flatMap p'.cueBytes := by
      refine List.flatMap_congr fun c hc => ?_
      rcases same c (List.mem_range.mp hc) with ⟨none, none'⟩ | ⟨e, e', he, he', hn, timing⟩
      · simp only [PathStore.cueBytes, none, none']
      · exact cueBytes_congr he he' hn timing
    exact congrArg (fun bytes => crc16 (roster ++ bytes)) cues

/-! ### The rows of the Peer Table (R54 to R56) -/

theorem mem_rowsOfRoster {roster : List Byte} {r : Row} : r ∈ rowsOfRoster roster ↔
    ∃ n, (n < 16 ∧ rosterRole (roster.getD n 0#8) = .winch) ∧
      r = { station := n, group := rosterGroup (roster.getD n 0#8) } := by
  simp only [rowsOfRoster, Config.stations, List.mem_map, List.mem_filter, List.mem_range, beq_iff_eq,
    eq_comm (b := r)]

theorem rowsOfRoster_sorted (roster : List Byte) :
    (rowsOfRoster roster).Pairwise (fun r r' => r.station < r'.station) :=
  List.pairwise_map.mpr (List.pairwise_lt_range.filter _)

/-- Settles O24, from the roster's order and Table 4-1. -/
theorem rowsAndPresence : Obligations.RowsAndPresence := by
  unfold Obligations.RowsAndPresence
  refine ⟨fun roster => ⟨fun n => ?row, rowsOfRoster_sorted roster, fun r hr => ?fresh⟩, fun limit r hl => ?peer,
    fun s r => ⟨fun h => if_pos h, presence_peer⟩⟩
  case row =>
    constructor
    · rintro ⟨r, hr, rfl⟩
      obtain ⟨n, winch, rfl⟩ := mem_rowsOfRoster.mp hr
      exact winch
    · exact fun winch => ⟨_, mem_rowsOfRoster.mpr ⟨n, winch, rfl⟩, rfl⟩
  case fresh =>
    obtain ⟨n, -, rfl⟩ := mem_rowsOfRoster.mp hr
    exact ⟨rfl, rfl, rfl⟩
  case peer =>
    unfold Row.peerPresence
    cases r.report with
    | none => exact ⟨fun _ => rfl, fun h => (nomatch h)⟩
    | some p =>
      refine ⟨fun h => (nomatch h), fun _ => ⟨fun h => if_pos h, fun h3 hlt => ?_, fun hge => ?_⟩⟩
      · exact (if_neg (by omega)).trans (if_pos hlt)
      · exact (if_neg (by omega)).trans (if_neg (by omega))

/-! ### The least achieved progress of the group (R65, R93) -/

/-- A fold with `min` is the start or an item, and passes neither the start nor an item. -/
theorem foldl_min_spec (xs : List Nat) (a : Nat) : (xs.foldl min a = a ∨ xs.foldl min a ∈ xs) ∧
    xs.foldl min a ≤ a ∧ ∀ x ∈ xs, xs.foldl min a ≤ x := by
  induction xs generalizing a with
  | nil => simp
  | cons x xs ih =>
    obtain ⟨among, le_start, le_item⟩ := ih (min a x)
    rw [List.foldl_cons]
    refine ⟨?_, by omega, fun y hy => ?_⟩
    · rcases among with h | h
      · rcases min_choice a x with hm | hm
        · exact .inl (h.trans hm)
        · exact .inr (by rw [h, hm]; exact List.mem_cons_self)
      · exact .inr (List.mem_cons_of_mem _ h)
    · rcases List.mem_cons.mp hy with rfl | hy
      · omega
      · exact le_item y hy

theorem leastAchieved_spec (s : State) :
    (s.leastAchieved = s.gov.achieved ∨ ∃ r ∈ s.members, s.leastAchieved = s.contribution r) ∧
      s.leastAchieved ≤ s.gov.achieved ∧ ∀ r ∈ s.members, s.leastAchieved ≤ s.contribution r := by
  obtain ⟨among, le_own, le_member⟩ := foldl_min_spec (s.members.map s.contribution) s.gov.achieved
  refine ⟨among.imp id fun h => ?_, le_own, fun r hr => le_member _ (List.mem_map_of_mem hr)⟩
  obtain ⟨r, hr, he⟩ := List.mem_map.mp h
  exact ⟨r, hr, he.symm⟩

/-- What a member contributes on the own cue: Table 4-3 by the state code it shows. -/
theorem contribution_onCue {r : Row} {p : Report} (hp : r.report = some p) (hc : p.cue.toNat = s.gov.cue) :
    s.contribution r =
      if p.stateCode.toNat = 2 ∨ p.stateCode.toNat = 3 ∨ p.stateCode.toNat = 4 then p.achieved.toNat
      else if p.stateCode.toNat = 1 ∧ p.flags.getLsbD 3 = true then s.cueEnd else 0 := by
  simp only [State.contribution, hp, if_pos hc, Bool.or_eq_true, Bool.and_eq_true, or_assoc, flagComplete,
    Report.shows_iff (st := .primed) rfl, Report.shows_iff (st := .flying) rfl,
    Report.shows_iff (st := .parking) rfl, Report.shows_iff (st := .ready) rfl, StationState.code]

theorem contribution_offCue {r : Row} {p : Report} (hp : r.report = some p) (hc : p.cue.toNat ≠ s.gov.cue) :
    s.contribution r = 0 := by
  simp only [State.contribution, hp, if_neg hc]

theorem holds_any_iff {h : Holds} : h.any = true ↔
    h.enable = true ∨ h.peerStale = true ∨ h.slack = true ∨ h.loadBand = true := by
  simp [Holds.any, or_assoc]

/-! ### The new commanded progress (R90 to R94, R98) -/

/-- The wanted advance of a computation: none in the path stop and under a hold. -/
def State.advanceWanted (s : State) (stopping : Bool) : Nat :=
  if stopping = true ∨ s.gov.holds.any = true then 0
  else min 65536 ((nominalAdvance (s.path.cueSegment s.currentEntry s.gov.k).t * s.gov.rate + 64) / 128)

/-- The ramp step of a computation. -/
def State.rampStep (s : State) (stopping : Bool) : Nat := if stopping = true then s.params.stopA else s.params.rampA

/-- The advance of a computation after its ramp. -/
def State.advanceRamped (s : State) (stopping : Bool) : Nat :=
  rampedAdvance (s.rampStep stopping) s.gov.dPrev (s.advanceWanted stopping)

theorem newProgress_eq (stopping : Bool) (s : State) : s.newProgress stopping =
    max s.gov.q (min (boundaryClamp s.gov.k s.gov.q (s.advanceRamped stopping))
      (s.leastAchieved + s.params.leadW)) := by
  unfold State.newProgress State.advanceRamped State.advanceWanted State.rampStep
  cases stopping with
  | true => simp [leadCap]
  | false => simp [leadCap, wantedAdvance]

theorem advanceRamped_le (stopping : Bool) (s : State) :
    s.advanceRamped stopping ≤ s.gov.dPrev + s.rampStep stopping := rampedAdvance_le_add

theorem advanceRamped_held {stopping : Bool} (h : stopping = true ∨ s.gov.holds.any = true) :
    s.advanceRamped stopping ≤ s.gov.dPrev := by
  unfold State.advanceRamped State.advanceWanted rampedAdvance
  rw [if_pos h]; omega

theorem boundaryClamp_le_add {k q d : Nat} (hk : k * 65536 ≤ q) : boundaryClamp k q d ≤ q + d := by
  rcases Nat.lt_or_ge (q - k * 65536 + d) 65536 with h | h
  · exact (boundaryClamp_inside h).le
  · rw [boundaryClamp_crossing h, Nat.succ_mul]
    generalize k * 65536 = start at *
    omega

/-- The cap by the group, over the stages' results: the last progress `q`, the progress `tried` after ramp and
boundary, the least achieved progress and W. -/
theorem leadCap_bounds {q tried least w : Nat} :
    q ≤ max q (min tried (least + w)) ∧
      (∀ e, q ≤ e → tried ≤ e → max q (min tried (least + w)) ≤ e) ∧
      (q < max q (min tried (least + w)) → ∀ a, least ≤ a → max q (min tried (least + w)) ≤ a + w) ∧
      (∀ d, tried ≤ q + d → max q (min tried (least + w)) - q ≤ d) := by
  refine ⟨Nat.le_max_left _ _, fun e hq ht => ?_, fun rise a ha => ?_, fun d hd => ?_⟩ <;> omega

/-- Settles O22: the least of the group from its fold, the rest from the stages' bounds. -/
theorem computationIsCappedByTheGroup : Obligations.ComputationIsCappedByTheGroup := by
  unfold Obligations.ComputationIsCappedByTheGroup
  refine ⟨fun s r e he => ?member, fun stopping s hlo hhi => ?computation⟩
  case member =>
    refine ⟨mem_members, fun silent => by rw [State.contribution, silent], fun p hp =>
      ⟨contribution_offCue hp, fun hc => ?_⟩⟩
    have code (n : Nat) (hn : n < 256) : p.stateCode = BitVec.ofNat 8 n ↔ p.stateCode.toNat = n := by
      rw [← BitVec.toNat_inj, BitVec.toNat_ofNat, Nat.mod_eq_of_lt hn]
    rw [contribution_onCue hp hc, State.cueEnd, currentEntry_some he]
    simp only [List.mem_cons, List.not_mem_nil, or_false, code 1 (by decide), code 2 (by decide),
      code 3 (by decide), code 4 (by decide)]
    refine ⟨fun h => if_pos h, fun h hf => ?_, fun h hf => ?_, fun h => ?_⟩
    · rw [if_neg (by omega), if_pos ⟨h, hf⟩]
    · rw [if_neg (by omega), if_neg (by simp only [hf]; exact fun h' => nomatch h'.2)]
    · rw [if_neg (fun h' => h (.inr h')), if_neg (fun h' => h (.inl h'.1))]
  case computation =>
    obtain ⟨among, least_own, least_member⟩ := leastAchieved_spec s
    have clamp_le := boundaryClamp_le (d := s.advanceRamped stopping) hlo
    have clamp_add := boundaryClamp_le_add (d := s.advanceRamped stopping) hlo
    have ramp := advanceRamped_le stopping s
    rw [newProgress_eq stopping s]
    obtain ⟨raised, bounded, capped, advance⟩ := leadCap_bounds (q := s.gov.q) (w := s.params.leadW)
      (tried := boundaryClamp s.gov.k s.gov.q (s.advanceRamped stopping)) (least := s.leastAchieved)
    refine ⟨⟨s.leastAchieved, among, least_own, least_member, ?_⟩, raised, bounded _ hhi clamp_le,
      fun rise => ⟨capped rise _ least_own, fun r hr => capped rise _ (least_member r hr)⟩,
      advance _ (clamp_add.trans (Nat.add_le_add_left ramp _)),
      fun held => advance _ (clamp_add.trans (Nat.add_le_add_left
        (advanceRamped_held (held.imp id holds_any_iff.mpr)) _)),
      fun atEnd => le_antisymm (bounded _ le_rfl (clamp_le.trans_eq atEnd.symm)) raised⟩
    simp only [State.advanceRamped, State.advanceWanted, holds_any_iff]
    rfl

end Sys2Proof.Machine
end

section
/-!
SUPPORT. The fourteen checks of Table 10-1, each as the condition it stands for (chapter 10).
-/

namespace Sys2Proof.Machine

set_option Elab.async false

variable {img : List Byte}

/-! ### The ranges of the fields (R167) -/

theorem byteAt_lt (bs : List Byte) (i : Nat) : byteAt bs i < 256 := (bs.getD i 0#8).isLt

theorem field2_lt (bs : List Byte) (i : Nat) : field2 bs i < 65536 := by
  have := byteAt_lt bs i
  have := byteAt_lt bs (i + 1)
  unfold field2; omega

theorem outside_false {lo hi n : Nat} : outside lo hi n = false ↔ lo ≤ n ∧ n ≤ hi := by
  simp [outside]

/-! ### Check by check -/

theorem firstFailedCheck_none : firstFailedCheck img = none ↔ ∀ b ∈ imageChecks img, b = false := by
  simp [firstFailedCheck, List.findIdx?_eq_none_iff]

theorem crcFails_false : crcFails img = false ↔
    field2 img (img.length - 2) = (crc16 (img.take (img.length - 2))).toNat := bne_eq_false_iff_eq

theorem limitsFail_false {p : Params} : limitsFail p = false ↔
    5 ≤ p.lostLimit ∧ p.lostLimit ≤ 250 ∧ 2 ≤ p.enableLimit ∧ p.enableLimit ≤ 250 ∧
      1 ≤ p.brakeTime ∧ p.brakeTime ≤ 250 ∧ 1 ≤ p.slackLimit ∧ p.slackLimit ≤ 250 ∧
      10 ≤ p.primeLimit ∧ p.primeLimit ≤ 1000 ∧ 1 ≤ p.stopLimit ∧ p.stopLimit ≤ 2000 := by
  simp only [limitsFail, Bool.or_eq_false_iff, outside_false, and_assoc]

/-- W takes the whole of its two bytes, so its upper bound holds of itself. -/
theorem loopValuesFail_false : loopValuesFail (imageParams img) = false ↔
    1 ≤ (imageParams img).leadW ∧ 1 ≤ (imageParams img).rampA ∧ (imageParams img).rampA ≤ 65536 ∧
      1 ≤ (imageParams img).stopA ∧ (imageParams img).stopA ≤ 65536 ∧
      1 ≤ (imageParams img).followTol ∧ (imageParams img).followTol ≤ 10000 ∧
      (imageParams img).followTol < (imageParams img).tripTol ∧
      1 ≤ (imageParams img).startTol ∧ (imageParams img).startTol ≤ 10000 ∧ (imageParams img).shiftS ≤ 15 ∧
      1 ≤ (imageParams img).vMax ∧ (imageParams img).vMax ≤ 4000 := by
  have lead : (imageParams img).leadW ≤ 65535 := Nat.le_of_lt_succ (field2_lt img 11)
  simp only [loopValuesFail, Bool.or_eq_false_iff, outside_false, and_assoc, decide_eq_false_iff_not, Nat.not_le,
    Nat.not_lt, lead, true_and]

theorem loadValuesFail_false {p : Params} : loadValuesFail p = false ↔
    p.tSlack < p.tMax ∧ p.gLo ≤ p.gHi ∧ p.gHi ≤ 262140 ∧ p.m ≤ 5 ∧ p.gain ≠ 0 ∧ p.kScale ≠ 0 ∧
      p.lZero ≤ 999999 ∧ 1 ≤ p.creepLimit ∧ p.creepLimit ≤ 1000 ∧ p.dipCode ≤ 3 := by
  simp only [loadValuesFail, Bool.or_eq_false_iff, outside_false, and_assoc, decide_eq_false_iff_not, Nat.not_le,
    Nat.not_lt, beq_eq_false_iff_ne, ne_eq]
  rfl

theorem rosterRole_winch {b : Byte} : rosterRole b = .winch ↔ b.toNat / 16 = 1 := by
  unfold rosterRole; split <;> [simp [*]; split <;> simp [*]]

theorem rosterByteFails_false {b : Byte} : rosterByteFails b = false ↔
    b.toNat / 16 ≤ 2 ∧ (b.toNat / 16 = 1 → 1 ≤ b.toNat % 16 ∧ b.toNat % 16 ≤ 8) ∧
      (b.toNat / 16 ≠ 1 → b.toNat % 16 = 0) := by
  rcases eq_or_ne (b.toNat / 16) 1 with h | h
  · simp [rosterByteFails, rosterRole_winch.mpr h, outside_false, rosterGroup, h]
  · have : rosterRole b ≠ .winch := fun h' => h (rosterRole_winch.mp h')
    simp [rosterByteFails, this, rosterGroup, h, beq_eq_false_iff_ne.mpr this]

theorem imageRoster_all {p : Byte → Prop} :
    (∀ b ∈ imageRoster img, p b) ↔ ∀ n, n < 16 → p (img.getD (58 + n) 0#8) := by
  simp [imageRoster, Config.stations]

theorem imageRoster_getD {n : Nat} (h : n < 16) : (imageRoster img).getD n 0#8 = img.getD (58 + n) 0#8 := by
  simp [imageRoster, Config.stations, h]

theorem rosterFails_false : (imageRoster img).any rosterByteFails = false ↔
    ∀ n, n < 16 → byteAt img (58 + n) / 16 ≤ 2 ∧
      (byteAt img (58 + n) / 16 = 1 → 1 ≤ byteAt img (58 + n) % 16 ∧ byteAt img (58 + n) % 16 ≤ 8) ∧
      (byteAt img (58 + n) / 16 ≠ 1 → byteAt img (58 + n) % 16 = 0) := by
  rw [List.any_eq_false]
  simp only [Bool.not_eq_true, rosterByteFails_false]
  exact imageRoster_all

theorem ownRole_winch (h : byteAt img 2 ≤ 15) :
    (rosterRole ((imageRoster img).getD (byteAt img 2) 0#8) != .winch) = false ↔
      byteAt img (58 + byteAt img 2) / 16 = 1 := by
  rw [imageRoster_getD (Nat.lt_succ_of_le h), bne_eq_false_iff_eq, rosterRole_winch]; rfl

/-- The winches of a group, counted along the roster. -/
theorem winchCount_eq {g : Nat} (hg : g < 16) :
    ((imageRoster img).countP fun b => rosterRole b == .winch && rosterGroup b == g) =
      ((List.range 16).filter fun n => byteAt img (58 + n) = 16 + g).length := by
  rw [imageRoster, List.countP_map, List.countP_eq_length_filter]
  refine congrArg List.length (List.filter_congr fun n _ => ?_)
  rw [Bool.eq_iff_iff, decide_eq_true_iff, Function.comp_apply, Bool.and_eq_true, beq_iff_eq, beq_iff_eq,
    rosterRole_winch]
  show byteAt img (58 + n) / 16 = 1 ∧ byteAt img (58 + n) % 16 = g ↔ _
  omega

/-- Check 10 beside check 8: no winch is in group 0. -/
theorem groupsFail_false (h8 : (imageRoster img).any rosterByteFails = false) :
    groupsFail (imageRoster img) = false ↔ ∀ g, 1 ≤ g → g ≤ 8 →
      ((List.range 16).filter fun n => byteAt img (58 + n) = 16 + g).length ≤ 4 := by
  have counts : groupsFail (imageRoster img) = false ↔ ∀ g, g < 9 →
      ((List.range 16).filter fun n => byteAt img (58 + n) = 16 + g).length ≤ 4 := by
    rw [groupsFail, List.any_eq_false]
    refine forall_congr' fun g => ?_
    rw [List.mem_range]
    refine imp_congr_right fun hg => ?_
    rw [winchCount_eq (by omega), decide_eq_true_iff, Nat.not_lt]
  rw [counts]
  constructor
  · exact fun h g _ hg => h g (Nat.lt_succ_of_le hg)
  · intro h g hg
    rcases Nat.eq_zero_or_pos g with rfl | hpos
    · have none : ((List.range 16).filter fun n => byteAt img (58 + n) = 16 + 0) = [] := by
        rw [List.filter_eq_nil_iff]
        intro n hn
        obtain ⟨-, winch, -⟩ := rosterFails_false.mp h8 n (List.mem_range.mp hn)
        rw [decide_eq_true_iff]
        intro group
        rw [group] at winch
        exact absurd (winch rfl).1 (by decide)
      rw [none]; exact Nat.zero_le 4
    · exact h g hpos (Nat.le_of_lt_succ hg)

theorem cueFails_false {n : Nat} {e : CueEntry} : cueFails n e = false ↔
    (e.n ≠ 0 → e.n ≤ 16 ∧ e.f + e.n ≤ n ∧ e.l0 ≤ 999999) := by
  by_cases h : e.n = 0
  · simp [cueFails, h]
  · simp only [cueFails, bne_iff_ne.mpr h, Bool.true_and, Bool.or_eq_false_iff, decide_eq_false_iff_not, Nat.not_lt,
      and_assoc, ne_eq, h, not_false_eq_true, true_imp_iff]
    rfl

theorem segmentFails_false {j : Nat} : segmentFails img j = false ↔
    field2 img (333 + 6 * j) ≠ 0 ∧ byteAt img (333 + 6 * j + 2) ≤ 1 ∧ field3 img (333 + 6 * j + 3) ≤ 999999 := by
  simp only [segmentFails, Bool.or_eq_false_iff, beq_eq_false_iff_ne, decide_eq_false_iff_not, Nat.not_lt,
    and_assoc]
  rfl

theorem imageEntry_isSome {c : Nat} : (imageEntry img c).isSome = true ↔ byteAt img (171 + 5 * c) ≠ 0 := by
  unfold imageEntry
  split
  case isTrue absent => exact ⟨fun h => (nomatch h), fun h => absurd absent h⟩
  case isFalse present => exact ⟨fun _ => present, fun _ => rfl⟩

theorem exclusionFails_false {i : Nat} : exclusionFails img (imageExclusion img i) = false ↔
    (byteAt img (75 + 3 * i) < 32 ∧ byteAt img (171 + 5 * byteAt img (75 + 3 * i)) ≠ 0) ∧
      1 ≤ byteAt img (75 + 3 * i + 1) ∧ byteAt img (75 + 3 * i + 1) ≤ 8 ∧
      (byteAt img (75 + 3 * i + 2) ≤ 31 ∨ byteAt img (75 + 3 * i + 2) = 255) := by
  have byte := byteAt_lt img (75 + 3 * i + 2)
  simp only [exclusionFails, Bool.or_eq_false_iff, Bool.not_eq_false', Bool.and_eq_true, Bool.and_eq_false_iff,
    decide_eq_true_iff, decide_eq_false_iff_not, outside_false, imageEntry_isSome, Nat.not_lt, and_assoc]
  refine and_congr_right' (and_congr_right' (and_congr_right' (and_congr_right' (or_congr_right ?_))))
  show 255 ≤ byteAt img (75 + 3 * i + 2) ↔ byteAt img (75 + 3 * i + 2) = 255
  omega

/-- Settles O23, check by check; check 8 stands before checks 9 and 10, which it helps to read. -/
theorem imageSoundIffTheFourteenChecksPass : Obligations.ImageSoundIffTheFourteenChecksPass := by
  unfold Obligations.ImageSoundIffTheFourteenChecksPass
  intro img
  dsimp only
  rw [firstFailedCheck_none]
  simp only [imageChecks, List.forall_mem_cons, List.not_mem_nil, false_imp_iff, implies_true, and_true]
  refine and_congr crcFails_false (and_congr bne_eq_false_iff_eq ?_)
  refine (and_congr_left' (decide_eq_false_iff_not.trans Nat.not_lt)).trans (and_congr_right fun station => ?_)
  refine and_congr limitsFail_false (and_congr loopValuesFail_false (and_congr ?_ (and_congr loadValuesFail_false ?_)))
  · exact decide_eq_false_iff_not.trans (Nat.not_lt.trans Nat.lt_succ_iff.symm)
  refine (and_congr_right fun h8 => ?_).trans (and_congr_left' rosterFails_false)
  refine and_congr (ownRole_winch station) (and_congr (groupsFail_false h8) (and_congr ?_ (and_congr ?_
    (and_congr ?_ ?_))))
  · exact decide_eq_false_iff_not.trans Nat.not_lt
  · rw [List.any_eq_false]
    simp only [Bool.not_eq_true, cueFails_false, List.mem_range]
    exact forall_congr' fun c => imp_congr_right fun _ => imp_congr_right fun _ =>
      and_congr_right fun _ => and_congr_left' (by rfl)
  · rw [List.any_eq_false]
    simp only [Bool.not_eq_true, segmentFails_false, List.mem_range]
    rfl
  · rw [List.any_eq_false]
    simp only [Bool.not_eq_true, exclusionFails_false, List.mem_range]
    rfl

end Sys2Proof.Machine
end

section
/-!
SUPPORT. Frames as they are sent and as they are read back, the fields of a REPORT body, and what the CRC tells apart
(chapters 2 and 11).
-/

namespace Sys2Proof.Machine

set_option Elab.async false

/-! ### Numbers as bytes -/

theorem bytes2_value {n : Nat} (h : n < 65536) :
    (BitVec.ofNat 8 (n / 256)).toNat * 256 + (BitVec.ofNat 8 n).toNat = n := by
  rw [BitVec.toNat_ofNat, BitVec.toNat_ofNat]; omega

theorem bytes3_value {n : Nat} (h : n < 16777216) :
    (BitVec.ofNat 8 (n / 65536)).toNat * 65536 + (BitVec.ofNat 8 (n / 256)).toNat * 256 + (BitVec.ofNat 8 n).toNat =
      n := by
  rw [BitVec.toNat_ofNat, BitVec.toNat_ofNat, BitVec.toNat_ofNat]; omega

/-- The two-byte field after a string of bytes is the one appended to it. -/
theorem field2_append (bs cs : List Byte) : field2 (bs ++ cs) bs.length = field2 cs 0 := by
  simp [field2, byteAt, List.getD_eq_getElem?_getD, List.getElem?_append_right]

theorem field2_bytes2 {n : Nat} (h : n < 65536) : field2 (bytes2 n) 0 = n := bytes2_value h

theorem ofNat_field2 (w : Word16) :
    BitVec.ofNat 16 ((BitVec.ofNat 8 (w.toNat / 256)).toNat * 256 + (BitVec.ofNat 8 w.toNat).toNat) = w := by
  rw [bytes2_value w.isLt, BitVec.ofNat_toNat, BitVec.setWidth_eq]

theorem ofNat_field3 (w : BitVec 24) :
    BitVec.ofNat 24 ((BitVec.ofNat 8 (w.toNat / 65536)).toNat * 65536 +
      (BitVec.ofNat 8 (w.toNat / 256)).toNat * 256 + (BitVec.ofNat 8 w.toNat).toNat) = w := by
  rw [bytes3_value w.isLt, BitVec.ofNat_toNat, BitVec.setWidth_eq]

/-! ### A frame read back (R26, R36) -/

theorem header_kind (kind sender : BitVec 4) : BitVec.ofNat 4 ((header kind sender).toNat / 16) = kind := by
  have := kind.isLt
  have := sender.isLt
  apply BitVec.eq_of_toNat_eq
  rw [header, BitVec.toNat_ofNat, BitVec.toNat_ofNat]; omega

theorem header_sender (kind sender : BitVec 4) : BitVec.ofNat 4 (header kind sender).toNat = sender := by
  have := kind.isLt
  have := sender.isLt
  apply BitVec.eq_of_toNat_eq
  rw [header, BitVec.toNat_ofNat, BitVec.toNat_ofNat]; omega

/-- The receive assembly on characters of the right length: the frame that the header names, if the CRC is the one
of what it covers. -/
theorem checkFrame_eq {kind sender : BitVec 4} {body : List Byte} (h : body.length ≤ 24) (crc : Word16) :
    checkFrame (header kind sender :: BitVec.ofNat 8 body.length :: (body ++ bytes2 crc.toNat)) =
      if crc = crc16 (header kind sender :: BitVec.ofNat 8 body.length :: body) then some (kind, sender, body)
      else none := by
  have len : (BitVec.ofNat 8 body.length).toNat = body.length := by
    rw [BitVec.toNat_ofNat]; omega
  have sized : (decide (body.length ≤ Config.maxBody) && (body ++ bytes2 crc.toNat).length == body.length + 2) =
      true := by
    rw [Bool.and_eq_true, decide_eq_true_iff, beq_iff_eq, List.length_append]
    exact ⟨h, rfl⟩
  simp only [checkFrame, len, sized, if_true, List.take_left, field2_append, field2_bytes2 crc.isLt, header_kind,
    header_sender, BitVec.toNat_inj]

/-- Settles O14: the length, the CRC and the header give back what they were built from, field by field of a REPORT. -/
theorem framesAndReportsReadBack : Obligations.FramesAndReportsReadBack := by
  unfold Obligations.FramesAndReportsReadBack
  refine ⟨fun kind sender body h => ⟨?_, (checkFrame_eq h _).trans (if_pos rfl)⟩, fun r => ⟨rfl, ?_⟩⟩
  · simp [buildFrame, bytes2]
  · have fields : Report.ofBytes r.toBytes = { r with
        cycleCount := BitVec.ofNat 16 ((BitVec.ofNat 8 (r.cycleCount.toNat / 256)).toNat * 256 +
          (BitVec.ofNat 8 r.cycleCount.toNat).toNat)
        achieved := BitVec.ofNat 24 ((BitVec.ofNat 8 (r.achieved.toNat / 65536)).toNat * 65536 +
          (BitVec.ofNat 8 (r.achieved.toNat / 256)).toNat * 256 + (BitVec.ofNat 8 r.achieved.toNat).toNat)
        length := BitVec.ofNat 24 ((BitVec.ofNat 8 (r.length.toNat / 65536)).toNat * 65536 +
          (BitVec.ofNat 8 (r.length.toNat / 256)).toNat * 256 + (BitVec.ofNat 8 r.length.toNat).toNat)
        tension := BitVec.ofNat 16 ((BitVec.ofNat 8 (r.tension.toNat / 256)).toNat * 256 +
          (BitVec.ofNat 8 r.tension.toNat).toNat)
        laterFaults := BitVec.ofNat 24 ((BitVec.ofNat 8 (r.laterFaults.toNat / 65536)).toNat * 65536 +
          (BitVec.ofNat 8 (r.laterFaults.toNat / 256)).toNat * 256 + (BitVec.ofNat 8 r.laterFaults.toNat).toNat)
        fingerprint := BitVec.ofNat 16 ((BitVec.ofNat 8 (r.fingerprint.toNat / 256)).toNat * 256 +
          (BitVec.ofNat 8 r.fingerprint.toNat).toNat) } := rfl
    rw [fields]
    simp only [ofNat_field2, ofNat_field3]

/-! ### What the CRC tells apart (R27) -/

theorem crcShift_xor (a b : Word16) : crcShift (a ^^^ b) = crcShift a ^^^ crcShift b := by
  unfold crcShift
  rw [BitVec.msb_xor, BitVec.shiftLeft_xor_distrib]
  cases a.msb <;> cases b.msb
  · rfl
  · exact BitVec.xor_assoc _ _ _
  · show (a <<< 1 ^^^ b <<< 1) ^^^ 0x1021#16 = (a <<< 1 ^^^ 0x1021#16) ^^^ b <<< 1
    ac_rfl
  · show a <<< 1 ^^^ b <<< 1 = (a <<< 1 ^^^ 0x1021#16) ^^^ (b <<< 1 ^^^ 0x1021#16)
    have : (a <<< 1 ^^^ 0x1021#16) ^^^ (b <<< 1 ^^^ 0x1021#16) =
        (a <<< 1 ^^^ b <<< 1) ^^^ (0x1021#16 ^^^ 0x1021#16) := by ac_rfl
    rw [this, BitVec.xor_self, BitVec.xor_zero]

/-- The generator is odd and a shift is even, so nothing but 0 shifts to 0. -/
theorem crcShift_eq_zero {x : Word16} (h : crcShift x = 0#16) : x = 0#16 := by
  unfold crcShift at h
  have lt := x.isLt
  split at h
  case isTrue top =>
    have : x <<< 1 = 0x1021#16 := BitVec.xor_eq_zero_iff.mp h
    have := congrArg BitVec.toNat this
    rw [BitVec.toNat_shiftLeft, Nat.shiftLeft_eq] at this
    change x.toNat * 2 % 65536 = 4129 at this
    omega
  case isFalse top =>
    have := congrArg BitVec.toNat h
    rw [BitVec.toNat_shiftLeft, Nat.shiftLeft_eq] at this
    change x.toNat * 2 % 65536 = 0 at this
    rw [Bool.not_eq_true, BitVec.msb_eq_false_iff_two_mul_lt] at top
    apply BitVec.eq_of_toNat_eq
    change x.toNat = 0
    omega

theorem crcShift_injective : Function.Injective crcShift := fun a b h =>
  BitVec.xor_eq_zero_iff.mp (crcShift_eq_zero (by rw [crcShift_xor, h, BitVec.xor_self]))

/-- The eight shifts of a byte. -/
theorem crcByte_inj {r r' : Word16} {b b' : Byte} (h : crcByte r b = crcByte r' b') :
    r ^^^ (b.setWidth 16 <<< 8) = r' ^^^ (b'.setWidth 16 <<< 8) := by
  have eight : Function.Injective (crcShift^[8]) := crcShift_injective.iterate 8
  exact eight h

theorem crcByte_register_injective (b : Byte) : Function.Injective fun r => crcByte r b := fun _ _ h =>
  (BitVec.xor_left_inj _).mp (crcByte_inj h)

theorem crcByte_byte_injective (r : Word16) : Function.Injective (crcByte r) := by
  intro a b h
  have top : a.setWidth 16 <<< 8 = b.setWidth 16 <<< 8 := (BitVec.xor_right_inj _).mp (crcByte_inj h)
  have := congrArg BitVec.toNat top
  rw [BitVec.toNat_shiftLeft, BitVec.toNat_shiftLeft, BitVec.toNat_setWidth, BitVec.toNat_setWidth, Nat.shiftLeft_eq,
    Nat.shiftLeft_eq] at this
  have := a.isLt
  have := b.isLt
  apply BitVec.eq_of_toNat_eq
  omega

/-- The bytes that follow keep two registers apart. -/
theorem crc_foldl_injective (bs : List Byte) : Function.Injective fun r => bs.foldl crcByte r := by
  induction bs with
  | nil => exact fun _ _ h => h
  | cons b bs ih => exact ih.comp (crcByte_register_injective b)

theorem crc16_ne {before after : List Byte} {a b : Byte} (h : a ≠ b) :
    crc16 (before ++ a :: after) ≠ crc16 (before ++ b :: after) := by
  rw [crc16, crc16, List.foldl_append, List.foldl_append]
  exact fun same => h (crcByte_byte_injective _ (crc_foldl_injective after same))

/-- Settles O16: the wrong byte changes the CRC of what the frame covers, and nothing else of the check. -/
theorem oneWrongByteIsDiscarded : Obligations.OneWrongByteIsDiscarded := by
  unfold Obligations.OneWrongByteIsDiscarded
  refine ⟨fun before after a b h => crc16_ne h, fun kind sender before after a b h hlen => ?_⟩
  have length : (before ++ a :: after).length = (before ++ b :: after).length := by
    rw [List.length_append, List.length_append]; rfl
  have wrong : (buildFrame kind sender (before ++ a :: after)).set (2 + before.length) b =
      header kind sender :: BitVec.ofNat 8 (before ++ b :: after).length :: ((before ++ b :: after) ++
        bytes2 (crc16 (header kind sender :: BitVec.ofNat 8 (before ++ a :: after).length ::
          (before ++ a :: after))).toNat) := by
    rw [← length, Nat.add_comm]
    simp [buildFrame]
  rw [wrong, checkFrame_eq (length ▸ hlen), ← length]
  exact if_neg (crc16_ne (before := header kind sender :: BitVec.ofNat 8 (before ++ a :: after).length :: before) h)

end Sys2Proof.Machine
end

section
/-!
SUPPORT. What every step keeps of the filter's total and of the ranges of the counters (chapters 3, 6 to 10).
-/

namespace Sys2Proof.Machine

set_option Elab.async false

variable {s t : State}

/-! ### The filter's total (R126, R127) -/

theorem State.filterTotals.same (hs : s.filterTotals) (tens : t.tens = s.tens) (params : t.params = s.params) :
    t.filterTotals := by
  unfold State.filterTotals at *
  rwa [tens, params]

/-- A sample joins as the newest and the oldest leaves, or the first one fills the line. -/
theorem State.filterTotals.sample (hs : s.filterTotals) (x : Int) : (tensionSampleWork x s).filterTotals := by
  unfold tensionSampleWork
  split
  · show (s.tens.sample s.params.m x).line.length = 2 ^ s.params.m ∧
      (s.tens.sample s.params.m x).sum = (s.tens.sample s.params.m x).line.sum
    obtain ⟨length, sum⟩ := hs
    unfold TensionFilter.sample
    split
    · cases hl : s.tens.line with
      | nil => rw [hl] at length; exact absurd length (Nat.two_pow_pos _).ne
      | cons y line =>
        rw [hl] at length sum
        refine ⟨by simpa using length, ?_⟩
        simp [sum]
    · exact ⟨List.length_replicate, by simp⟩
  · exact hs

theorem State.filterTotals.op (h : Op s t) (hs : s.filterTotals) : t.filterTotals := by
  cases h with
  | elapse | lstopEdge | dip | lineState | request | attempt | attemptEnd | cycle | markRequested | peers | holds
  | enableRecord | reading | read | load | sequencer | fly | move | speed | inputs | lock | memoryRead => exact hs
  | tension x => exact hs.sample x
  | latch => unfold latchTension; split <;> exact hs
  | imageCheck =>
    unfold imageCheckWork
    split
    · split
      · exact hs.same rfl rfl
      · exact ⟨List.length_replicate, by simp [loadImage]⟩
    · exact hs
  | park => exact hs.same (enterParking_only s).tens (enterParking_only s).params
  | follow => exact hs.same (judgeFollow_only s).tens (judgeFollow_only s).params
  | withdraw => exact hs.same (withdrawMark_only s).tens (withdrawMark_only s).params
  | tickStop => exact hs.same (tickStop_only s).tens (tickStop_only s).params
  | tickBrake => exact hs.same (tickBrake_only s).tens (tickBrake_only s).params
  | tickListen => exact hs.same (tickListen_only s).tens (tickListen_only s).params
  | settleStop => exact hs.same (settleTest_only s).tens (settleTest_only s).params
  | cause c src => exact hs.same (takeCause_only s c src).tens (takeCause_only s c src).params
  | duplicate => exact hs.same (takeDuplicate_only s).tens (takeDuplicate_only s).params
  | brakeSample f => exact hs.same (brakeSampleWork_only s f).tens (brakeSampleWork_only s f).params
  | brakeFails => exact hs.same (failBrake_only s).tens (failBrake_only s).params
  | fixedBytes bytes => exact hs.same (fixedBytesWork_only s bytes).tens (fixedBytesWork_only s bytes).params
  | imageRead bytes => exact hs.same (imageReadWork_only s bytes).tens (imageReadWork_only s bytes).params
  | settleIn => exact hs.same (settleInEndWork_only s).tens (settleInEndWork_only s).params
  | measure => exact hs.same (measureEndWork_only s).tens (measureEndWork_only s).params
  | settleOut => exact hs.same (settleOutEndWork_only s).tens (settleOutEndWork_only s).params
  | windowEnd => exact hs.same (listenWindowEndWork_only s).tens (listenWindowEndWork_only s).params

theorem filterTotals_kept : Kept State.filterTotals where
  op := fun h hs => hs.op h
  go := by
    rintro s t ⟨n, e, -, rfl⟩ hs
    exact hs.same (acceptGo_only s n e).tens (acceptGo_only s n e).params
  clear := by
    rintro s t ⟨-, -, rfl⟩ hs
    exact hs.same (acceptClear_only s).tens (acceptClear_only s).params
  reset := fun _ _ => ⟨rfl, rfl⟩
  queue := fun _ hs => hs

/-! ### The PWM clock within its period (R110) -/

theorem brakeSetConfirmed_pwmPhase (s : State) : (brakeSetConfirmed s).loop.pwmPhase = s.loop.pwmPhase := by
  unfold brakeSetConfirmed
  split
  · rfl
  · split <;> rfl
  · split <;> rfl
  all_goals rfl

theorem confirmBrake_pwmPhase (s : State) : (confirmBrake s).loop.pwmPhase = s.loop.pwmPhase := by
  unfold confirmBrake
  dsimp only
  split
  · rfl
  · exact brakeSetConfirmed_pwmPhase _

theorem commandBrake_pwmPhase (c : BrakeCommand) (s : State) :
    (commandBrake c s).loop.pwmPhase = s.loop.pwmPhase := by
  unfold commandBrake restartSupervision
  split
  · rfl
  · dsimp only
    split
    · split
      · exact confirmBrake_pwmPhase _
      · rfl
    · rfl

theorem StopMade.pwmPhase {cat : Category} (h : StopMade s cat t) : t.loop.pwmPhase = s.loop.pwmPhase := by
  cases h with
  | inForce | brakeStands | ramps => rfl
  | drops => exact commandBrake_pwmPhase .set _
  | holds => exact commandBrake_pwmPhase .set _

theorem takeCause_pwmPhase (c : FaultCode) (src : Nat) (s : State) :
    (takeCause c src s).loop.pwmPhase = s.loop.pwmPhase :=
  takeCause_induction (P := fun t => t.loop.pwmPhase = s.loop.pwmPhase) (fun _ h => h) c src (fun _ => rfl)
    fun _ made => made.pwmPhase

theorem brakeSampleWork_pwmPhase (f : Feedback) (s : State) :
    (brakeSampleWork f s).loop.pwmPhase = s.loop.pwmPhase := by
  unfold brakeSampleWork
  dsimp only
  split
  · split
    · exact confirmBrake_pwmPhase _
    · rfl
  · split
    · rfl
    · exact takeCause_pwmPhase _ _ _
  · rfl
  · rfl

theorem settleTest_pwmPhase (s : State) : (settleTest s).loop.pwmPhase = s.loop.pwmPhase := by
  unfold settleTest
  split
  · unfold settleRequest
    split
    · split <;> rfl
    · exact commandBrake_pwmPhase .set _
  · rfl

theorem windowBrake_pwmPhase (s : State) : (windowBrake s).loop.pwmPhase = s.loop.pwmPhase := by
  unfold windowBrake
  split <;> rfl

/-! ### The dip timer and the lamp's clock -/

theorem StopMade.timers {cat : Category} (h : StopMade s cat t) :
    t.stop.dipTimer = s.stop.dipTimer ∧ t.stop.blinkClk = s.stop.blinkClk := by
  cases h with
  | inForce | brakeStands | ramps => exact ⟨rfl, rfl⟩
  | drops => rw [(immediateRequest_only _).stop]; exact ⟨rfl, rfl⟩
  | holds => rw [(assistRequest_only _).stop]; exact ⟨rfl, rfl⟩

theorem takeCause_dipTimer (c : FaultCode) (src : Nat) (s : State) :
    (takeCause c src s).stop.dipTimer = s.stop.dipTimer :=
  takeCause_induction (P := fun t => t.stop.dipTimer = s.stop.dipTimer) (fun _ h => h) c src (fun _ => rfl)
    fun _ made => made.timers.1.trans (record_dipTimer _ _ _)

theorem brakeSampleWork_dipTimer (f : Feedback) (s : State) :
    (brakeSampleWork f s).stop.dipTimer = s.stop.dipTimer := by
  unfold brakeSampleWork
  dsimp only
  split
  · split
    · rw [(confirmBrake_only _).stop]; rfl
    · rfl
  · split
    · rfl
    · exact takeCause_dipTimer _ _ _
  · rfl
  · rfl

theorem settleTest_dipTimer (s : State) : (settleTest s).stop.dipTimer = s.stop.dipTimer := by
  unfold settleTest
  split
  · rw [(settleRequest_only _).stop]; rfl
  · rfl

/-! ### The end of the listen window -/

/-- What each intake keeps, the causes of the window's end keep. -/
theorem windowCauses_induction {P : State → Prop} (h : P s)
    (taken : ∀ {u : State} (c : FaultCode) (src : Nat), P u → P (intake c src u)) : P (windowCauses s) := by
  unfold windowCauses
  dsimp only
  split
  · refine taken _ _ ?_
    split
    · exact taken _ _ h
    · exact h
  · split
    · exact taken _ _ h
    · exact h

/-- From READY and STOPPED a cause leads to STOPPED or nowhere. -/
theorem StopMade.held {cat : Category} (h : StopMade s cat t) (hs : s.seq.state = .ready ∨ s.seq.state = .stopped) :
    t.seq.state = .ready ∨ t.seq.state = .stopped := by
  rcases h.stopped_or with ⟨rfl, -⟩ | ⟨-, -, moving, -⟩ | ⟨stopped, -⟩
  · exact hs
  · rcases hs with h | h <;> rw [h] at moving <;> cases moving
  · exact .inr stopped

/-- The causes of the window's end are taken from READY: they leave the station READY or STOPPED. -/
theorem windowCauses_held (hs : s.seq.state = .ready) :
    ((windowCauses s).seq.state = .ready ∨ (windowCauses s).seq.state = .stopped) ∧
      (windowCauses s).loop.pwmPhase = s.loop.pwmPhase ∧ (windowCauses s).stop.dipTimer = s.stop.dipTimer := by
  refine windowCauses_induction (P := fun t => (t.seq.state = .ready ∨ t.seq.state = .stopped) ∧
    t.loop.pwmPhase = s.loop.pwmPhase ∧ t.stop.dipTimer = s.stop.dipTimer) ⟨.inl hs, rfl, rfl⟩ ?_
  rintro u c src ⟨held, pwm, dip⟩
  have made := intake_made (s := u) c src (by rcases held with h | h <;> rw [h] <;> rfl)
  exact ⟨made.held held, made.pwmPhase.trans pwm, made.timers.1.trans ((record_dipTimer _ _ _).trans dip)⟩

theorem windowBrake_ready (s : State) :
    (windowBrake (toState .ready (s.withLoader { s.loader with progress := .done }))).seq.state = .ready := by
  rw [(windowBrake_only _).seq]; rfl

/-- The end of the listen window leaves the station READY or STOPPED, with the load progress DONE. -/
theorem listenWindowEndWork_held (h : s.windowOver = true) :
    ((listenWindowEndWork s).seq.state = .ready ∨ (listenWindowEndWork s).seq.state = .stopped) ∧
      (listenWindowEndWork s).loader = { s.loader with progress := .done } ∧
      (listenWindowEndWork s).loop.pwmPhase = s.loop.pwmPhase ∧
      (listenWindowEndWork s).stop.dipTimer = s.stop.dipTimer := by
  obtain ⟨held, pwm, dip⟩ := windowCauses_held (windowBrake_ready s)
  rw [listenWindowEndWork, if_pos h]
  refine ⟨held, ?_, pwm.trans (windowBrake_pwmPhase _), dip.trans ?_⟩
  · rw [(windowCauses_only _).loader, (windowBrake_only _).loader]; rfl
  · rw [(windowBrake_only _).stop]; rfl

theorem windowOver_iff : s.windowOver = true ↔
    s.seq.state = .start ∧ s.loader.progress = .listen ∧ 64 ≤ s.loader.listenCounter := by
  simp [State.windowOver, and_assoc]

/-! ### The ranges of the counters -/

/-- The counters and image values whose ranges the statement names. -/
def State.counters (s : State) : Nat × Nat × Nat × Nat × Nat × Nat × Nat × Params :=
  (s.clock.timer, s.clock.clkDiv, s.loop.pwmPhase, s.len.failures, s.gov.enableAge, s.loader.listenCounter,
    s.stop.dipTimer, s.params)

/-- The limits that a loaded image has. -/
def Params.limitsLoaded (p : Params) : Prop := 5 ≤ p.lostLimit ∧ 2 ≤ p.enableLimit ∧ 1 ≤ p.vMax ∧ 1 ≤ p.kScale

/-- The part of the start-up from which an image is loaded. -/
def State.imageLoaded (s : State) : Prop :=
  s.seq.state.operating = true ∨ s.loader.progress = .shunt ∨ s.loader.progress = .listen

/-- The lamp's clock within its half. -/
def State.lampInRange (s : State) : Prop := ∀ half, s.blinkRunning = some half → s.stop.blinkClk < half

theorem State.countsInRange.limits (hs : s.countsInRange) : s.imageLoaded → s.params.limitsLoaded := by
  obtain ⟨-, -, -, -, -, -, -, -, -, -, loaded⟩ := hs
  exact loaded

theorem State.countsInRange.lamp (hs : s.countsInRange) : s.lampInRange := by
  obtain ⟨-, -, -, lamp, -⟩ := hs
  exact lamp

theorem State.countsInRange.of_counters (hs : s.countsInRange) (counters : t.counters = s.counters)
    (lamp : t.lampInRange) (loaded : t.imageLoaded → s.imageLoaded) : t.countsInRange := by
  obtain ⟨timer, div, pwm, -, failures, age, listen, dip, station, m, limits⟩ := hs
  simp only [State.counters, Prod.mk.injEq] at counters
  obtain ⟨htimer, hdiv, hpwm, hfailures, hage, hlisten, hdip, hparams⟩ := counters
  unfold State.countsInRange
  rw [htimer, hdiv, hpwm, hfailures, hage, hlisten, hdip, hparams]
  exact ⟨timer, div, pwm, lamp, failures, age, listen, dip, station, m, fun h => limits (loaded h)⟩

theorem lampInRange_of_operating (h : t.seq.state.operating = true) : t.lampInRange := by
  intro half running
  unfold State.blinkRunning at running
  split at running
  next locked => rw [locked] at h; cases h
  next => cases running

theorem State.lampInRange.same (h : s.lampInRange) (seq : t.seq = s.seq) (stop : t.stop = s.stop) :
    t.lampInRange := by
  unfold State.lampInRange State.blinkRunning at *
  rwa [seq, stop]

/-- A work that leaves the Sequencer, the Stop Controller, the load progress and the counters. -/
theorem State.countsInRange.same (hs : s.countsInRange) (counters : t.counters = s.counters) (seq : t.seq = s.seq)
    (stop : t.stop = s.stop) (progress : t.loader.progress = s.loader.progress) : t.countsInRange :=
  hs.of_counters counters (hs.lamp.same seq stop) (by unfold State.imageLoaded; rw [seq, progress]; exact id)

/-- A work in operation. -/
theorem State.countsInRange.in_operation (hs : s.countsInRange) (counters : t.counters = s.counters)
    (before : s.seq.state.operating = true) (after : t.seq.state.operating = true) : t.countsInRange :=
  hs.of_counters counters (lampInRange_of_operating after) fun _ => .inl before

theorem counters_eq (clock : t.clock = s.clock) (pwm : t.loop.pwmPhase = s.loop.pwmPhase) (len : t.len = s.len)
    (gov : t.gov = s.gov) (loader : t.loader = s.loader) (dip : t.stop.dipTimer = s.stop.dipTimer)
    (params : t.params = s.params) : t.counters = s.counters := by
  unfold State.counters
  rw [clock, pwm, len, gov, loader, dip, params]

theorem takeCause_counters (c : FaultCode) (src : Nat) (s : State) : (takeCause c src s).counters = s.counters := by
  have only := takeCause_only s c src
  exact counters_eq only.clock (takeCause_pwmPhase c src s) only.len only.gov only.loader
    (takeCause_dipTimer c src s) only.params

theorem State.countsInRange.cause (hs : s.countsInRange) (c : FaultCode) (src : Nat) :
    (takeCause c src s).countsInRange := by
  cases ho : s.seq.state.operating
  · rwa [takeCause_idle c src ho]
  · exact hs.in_operation (takeCause_counters c src s) ho ((takeCause_operating c src s).trans ho)

theorem State.countsInRange.duplicate (hs : s.countsInRange) (ho : s.seq.state.operating = true) :
    (takeDuplicate s).countsInRange := by
  have taken := hs.cause .duplicateStation s.own
  unfold takeDuplicate
  dsimp only
  split
  · exact taken
  · exact taken.in_operation rfl ((takeCause_operating _ _ _).trans ho) ((takeCause_operating _ _ _).trans ho)

theorem State.countsInRange.brakeSample (hs : s.countsInRange) (f : Feedback) :
    (brakeSampleWork f s).countsInRange := by
  cases ho : s.seq.state.operating
  · obtain ⟨sup, he⟩ := brakeSampleWork_idle f ho
    rw [he]; exact hs
  · have only := brakeSampleWork_only s f
    exact hs.in_operation (counters_eq only.clock (brakeSampleWork_pwmPhase f s) only.len only.gov only.loader
      (brakeSampleWork_dipTimer f s) only.params) ho ((brakeSampleWork_operating f s).trans ho)

theorem State.countsInRange.settleStop (hs : s.countsInRange) : (settleTest s).countsInRange := by
  by_cases hst : s.seq.state = .stopping
  · have ho : s.seq.state.operating = true := by rw [hst]; rfl
    have only := settleTest_only s
    exact hs.in_operation (counters_eq only.clock (settleTest_pwmPhase s) only.len only.gov only.loader
      (settleTest_dipTimer s) only.params) ho ((settleTest_operating s).trans ho)
  · rwa [settleTest, if_neg fun h => hst h.1]

theorem State.countsInRange.park (hs : s.countsInRange) (moving : s.seq.state = .primed ∨ s.seq.state = .flying) :
    (enterParking s).countsInRange := by
  have only := enterParking_only s
  have gov : (enterParking s).gov = { s.gov with dPrev := 0 } := (commandBrake_only s.parkingEntry .set).gov
  have counters : (enterParking s).counters = s.counters := by
    unfold State.counters
    rw [only.clock, only.len, gov, only.loader, only.stop, only.params]
    rw [show (enterParking s).loop.pwmPhase = s.loop.pwmPhase from commandBrake_pwmPhase .set s.parkingEntry]
  refine hs.in_operation counters ?_ ?_
  · rcases moving with h | h <;> rw [h] <;> rfl
  · rcases enterParking_state s with h | h <;> rw [h] <;> rfl

/-- The lamp begins a half at the entry to LOCKED. -/
theorem lampInRange_of_begun (h : t.stop.blinkClk = 0) : t.lampInRange := by
  intro half running
  rw [h]
  unfold State.blinkRunning at running
  split at running
  · cases hc : t.stop.lockCause <;> rw [hc] at running <;> cases running <;> decide
  · cases running

theorem State.countsInRange.lockFromLoader (hs : s.countsInRange) (c : FaultCode) (src : Nat) (cause : LockCause) :
    (lockFromLoader c src cause s).countsInRange := by
  have counters : (Machine.lockFromLoader c src cause s).counters = s.counters := by
    have dip : (s.stop.record c src).dipTimer = s.stop.dipTimer := record_dipTimer _ _ _
    show (_, _, _, _, _, _, (s.stop.record c src).dipTimer, _) = _
    rw [dip]; rfl
  exact hs.of_counters counters (lampInRange_of_begun rfl) fun loaded => by
    rcases loaded with h | h | h <;> cases h

theorem mod_half_lt {cause : LockCause} {half : Nat} (h : blinkHalf cause = some half) (n : Nat) : n % half < half := by
  cases cause with
  | selfCheck | duplicateStation => cases h; exact Nat.mod_lt _ (by decide)
  | image | noLock => cases h

theorem State.countsInRange.elapse (hs : s.countsInRange) (n : Nat) : (elapse n s).countsInRange := by
  obtain ⟨timer, div, pwm, lamp, failures, age, listen, dip, station, m, limits⟩ := hs
  have dipNow : (s.elapseStop n).dipTimer ≤ 1000 := by
    have counted : (if s.dipLevel then min dipTimerLimit (s.stop.dipTimer + s.elapsedUs n) else s.stop.dipTimer) ≤
        1000 := by
      split
      · exact Nat.min_le_left _ _
      · exact dip
    unfold State.elapseStop
    dsimp only
    split <;> exact counted
  have lampNow : (Machine.elapse n s).lampInRange := by
    intro half running
    have lockCause : (s.elapseStop n).lockCause = s.stop.lockCause := by
      unfold State.elapseStop
      dsimp only
      split <;> rfl
    have same : (Machine.elapse n s).blinkRunning = s.blinkRunning := by
      unfold State.blinkRunning
      show (if s.seq.state = .locked then blinkHalf (s.elapseStop n).lockCause else none) = _
      rw [lockCause]
    rw [same] at running
    show (s.elapseStop n).blinkClk < half
    simp only [State.elapseStop, running]
    unfold State.blinkRunning at running
    split at running
    · exact mod_half_lt running _
    · cases running
  have counter : (s.elapseLoader n).listenCounter = s.loader.listenCounter := by
    unfold State.elapseLoader
    split <;> rfl
  have progress := elapse_progress n s
  refine ⟨?_, Nat.mod_lt _ (by decide), Nat.mod_lt _ (by decide), lampNow, failures, age, counter.trans_le listen, dipNow,
    station, m, fun h => limits (by rwa [progress] at h)⟩
  show (s.elapseClock n).timer ≤ 6000
  show (if s.clock.running then min cycleExpiry (s.clock.timer + s.elapsedUs n) else s.clock.timer) ≤ 6000
  split
  · exact Nat.min_le_left _ _
  · exact timer

theorem afterRead_failures (x : LengthReader) (w : EncoderWord) (o : ReadOutcome) :
    ((x.keepCount w).afterRead o).failures ≤ 2 := by
  cases o with
  | good => exact Nat.zero_le 2
  | failed | outOfRange => exact Nat.min_le_left _ _

/-- A sound image brings the ranges of its values with it (Table 10-1). -/
theorem limitsLoaded_of_sound {img : List Byte} (h : firstFailedCheck img = none) :
    (imageParams img).station ≤ 15 ∧ (imageParams img).m ≤ 5 ∧ (imageParams img).limitsLoaded := by
  obtain ⟨-, -, station, ⟨lost, -, enable, -⟩, ⟨-, -, -, -, -, -, -, -, -, -, -, vMax, -⟩, -,
    ⟨-, -, -, m, -, kScale, -⟩, -⟩ := (imageSoundIffTheFourteenChecksPass img).mp h
  exact ⟨station, m, lost, enable, vMax, Nat.one_le_iff_ne_zero.mpr kScale⟩

theorem State.countsInRange.imageCheck (hs : s.countsInRange) : (imageCheckWork s).countsInRange := by
  unfold imageCheckWork
  split
  · split
    · exact hs.lockFromLoader _ _ _
    next sound =>
      obtain ⟨station, m, limits⟩ := limitsLoaded_of_sound sound
      obtain ⟨timer, div, pwm, lamp, failures, age, listen, dip, -⟩ := hs
      exact ⟨timer, div, pwm, lamp, failures, age, listen, dip, station, m, fun _ => limits⟩
  · exact hs

theorem State.countsInRange.windowEnd (hs : s.countsInRange) : (listenWindowEndWork s).countsInRange := by
  by_cases h : s.windowOver = true
  · obtain ⟨held, loader, pwm, dip⟩ := listenWindowEndWork_held h
    have only := listenWindowEndWork_only s
    have counters : (listenWindowEndWork s).counters = s.counters := by
      unfold State.counters
      rw [only.clock, pwm, only.len, only.gov, loader, dip, only.params]
    refine hs.of_counters counters (lampInRange_of_operating ?_) fun _ => .inr (.inr (windowOver_iff.mp h).2.1)
    rcases held with h | h <;> rw [h] <;> rfl
  · rwa [listenWindowEndWork_notDue (Bool.eq_false_iff.mpr h)]

theorem State.countsInRange.op (h : Op s t) (hs : s.countsInRange) : t.countsInRange := by
  cases h with
  | lstopEdge | lineState | request | attempt | attemptEnd | markRequested | peers | holds | reading | load
  | sequencer | move | speed | inputs => exact hs
  | elapse n => exact hs.elapse n
  | dip level =>
    obtain ⟨timer, div, pwm, lamp, failures, age, listen, -, rest⟩ := hs
    exact ⟨timer, div, pwm, lamp, failures, age, listen, Nat.zero_le _, rest⟩
  | withdraw => unfold withdrawMark; split <;> exact hs
  | cycle count unsync =>
    obtain ⟨-, rest⟩ := hs
    exact ⟨Nat.zero_le _, rest⟩
  | tickStop => unfold tickStop; split <;> exact hs
  | tickBrake => unfold tickBrake; split <;> exact hs
  | tickListen =>
    obtain ⟨timer, div, pwm, lamp, failures, age, -, rest⟩ := id hs
    unfold tickListen
    split
    · exact ⟨timer, div, pwm, lamp, failures, age, Nat.min_le_left _ _, rest⟩
    · exact hs
  | enableRecord rate age bound =>
    obtain ⟨timer, div, pwm, lamp, failures, -, rest⟩ := hs
    exact ⟨timer, div, pwm, lamp, failures, bound, rest⟩
  | read w o =>
    obtain ⟨timer, div, pwm, lamp, -, rest⟩ := hs
    exact ⟨timer, div, pwm, lamp, afterRead_failures s.len w o, rest⟩
  | tension x =>
    have loader : (tensionSampleWork x s).loader.listenCounter = s.loader.listenCounter ∧
        (tensionSampleWork x s).loader.progress = s.loader.progress := by
      unfold tensionSampleWork ImageLoader.countSample
      split
      · show (if _ then _ else _ : ImageLoader).listenCounter = _ ∧ (if _ then _ else _ : ImageLoader).progress = _
        split <;> exact ⟨rfl, rfl⟩
      · exact ⟨rfl, rfl⟩
    have only := tensionSampleWork_only s x
    refine hs.same ?_ only.seq only.stop loader.2
    unfold State.counters
    rw [only.clock, only.loop, only.len, only.gov, loader.1, only.stop, only.params]
  | latch => unfold latchTension; split <;> exact hs
  | fly primed => exact hs.in_operation rfl (by rw [primed]; rfl) rfl
  | park moving => exact hs.park moving
  | follow => unfold judgeFollow; split <;> exact hs
  | settleStop => exact hs.settleStop
  | cause c src => exact hs.cause c src
  | duplicate operating => exact hs.duplicate operating
  | brakeSample f => exact hs.brakeSample f
  | brakeFails => exact State.countsInRange.cause (s := s.withLoop { s.loop with supervision := .failed }) hs _ _
  | lock => exact hs.of_counters rfl (lampInRange_of_begun rfl) fun h => h.imp (nomatch ·) id
  | memoryRead => exact hs.of_counters rfl hs.lamp fun h => h.imp id (fun h => by rcases h with h | h <;> cases h)
  | fixedBytes bytes =>
    unfold fixedBytesWork
    split
    · split
      · exact State.countsInRange.lockFromLoader
          (s := s.withLoader { s.loader with buffer := bytes, msel := false }) hs _ _ _
      · exact hs
    · exact hs
  | imageRead bytes =>
    unfold imageReadWork
    split
    · exact hs.of_counters rfl hs.lamp fun h => h.imp id (fun h => by rcases h with h | h <;> cases h)
    · exact hs
  | imageCheck => exact hs.imageCheck
  | settleIn => unfold settleInEndWork; split <;> exact hs
  | measure =>
    unfold measureEndWork
    split
    · dsimp only
      split
      · exact hs
      · exact State.countsInRange.lockFromLoader (s := s.withLoader
          { s.loader with shunt := false, shuntPhase := .settleOut, shuntCount := 0 }) hs _ _ _
    · exact hs
  | settleOut =>
    unfold settleOutEndWork
    split
    next h =>
      simp only [State.shuntPhaseOver, Bool.and_eq_true, beq_iff_eq] at h
      obtain ⟨-, div, pwm, lamp, failures, age, -, dip, station, m, limits⟩ := hs
      exact ⟨(by decide : 3000 ≤ 6000), div, pwm, lamp, failures, age, Nat.zero_le _, dip, station, m,
        fun _ => limits (.inr (.inl h.1.1))⟩
    · exact hs
  | windowEnd => exact hs.windowEnd

theorem acceptGo_pwmPhase (n : Nat) (e : CueEntry) (s : State) :
    (acceptGo n e s).loop.pwmPhase = s.loop.pwmPhase := commandBrake_pwmPhase .release _

theorem acceptGo_gov (n : Nat) (e : CueEntry) (s : State) : (acceptGo n e s).gov =
    { s.gov with cue := n, q := 0, k := 0, dPrev := 0, achieved := 0, lag := false } := by
  unfold acceptGo primeRequest
  rw [(commandBrake_only _ .release).gov]; rfl

theorem acceptClear_pwmPhase (s : State) : (acceptClear s).loop.pwmPhase = s.loop.pwmPhase := by
  unfold acceptClear
  dsimp only
  split
  · exact commandBrake_pwmPhase .set _
  · rfl

theorem reset_countsInRange : State.reset.countsInRange :=
  ⟨by decide, by decide, by decide, fun _ h => (nomatch h), by decide, by decide, by decide, by decide, by decide,
    by decide, fun h => by rcases h with h | h | h <;> cases h⟩

theorem countsInRange_kept : Kept State.countsInRange where
  op := fun h hs => hs.op h
  go := by
    rintro s t ⟨n, e, hchecks, rfl⟩ hs
    have only := acceptGo_only s n e
    refine hs.in_operation ?_ (by rw [goChecks_state hchecks]; rfl) (by rw [acceptGo_state]; rfl)
    unfold State.counters
    rw [only.clock, acceptGo_pwmPhase, only.len, acceptGo_gov, only.loader, only.stop, only.params]
  clear := by
    rintro s t ⟨hst, -, rfl⟩ hs
    have only := acceptClear_only s
    exact hs.in_operation (counters_eq only.clock (acceptClear_pwmPhase s) only.len only.gov only.loader
      (by rw [acceptClear_stop]; rfl) only.params) (by rw [hst]; rfl) rfl
  reset := fun _ _ => reset_countsInRange
  queue := fun _ hs => hs

/-- Settles O8: the two properties, piece of work by piece of work. -/
theorem everyStepKeepsCountsAndTotals : Obligations.EveryStepKeepsCountsAndTotals := by
  unfold Obligations.EveryStepKeepsCountsAndTotals
  exact fun s t h => ⟨fun hs => filterTotals_kept.step hs h, fun hs => countsInRange_kept.step hs h⟩

end Sys2Proof.Machine
end

section
/-!
SUPPORT. What every step keeps of progress within the current cue (chapters 5 and 6); the reset state; one step of the
block.
-/

namespace Sys2Proof.Machine

set_option Elab.async false

variable {s t : State}

/-! ### Progress in the cue (R81 to R83, R93, R94) -/

/-- The states in which a cue is being followed or left. -/
def State.onCue (s : State) : Prop := s.seq.state.inFlight = true ∨ s.seq.state = .stopping

/-- Progress `q` on segment `k` of a cue of `n` segments (R82, R83). -/
def onSegment (n k q : Nat) : Prop :=
  k < n ∧ k * 65536 ≤ q ∧ q ≤ (k + 1) * 65536 ∧ (k + 1 < n → q < (k + 1) * 65536)

theorem onSegment_start {n : Nat} (h : 1 ≤ n) : onSegment n 0 0 := by
  refine ⟨h, ?_, ?_, fun _ => ?_⟩ <;> omega

/-- The hand-over leaves the new progress on the segment it makes current (R94 stage 7). -/
theorem onSegment_handover {n k q : Nat} (hk : k < n) (lo : k * 65536 ≤ q) (hi : q ≤ (k + 1) * 65536) :
    onSegment n (handover k n q) q := by
  unfold handover
  split
  next h =>
    obtain ⟨atEnd, more⟩ := h
    rw [atEnd]
    exact ⟨more, le_rfl, Nat.mul_le_mul_right _ (Nat.le_succ _),
      fun _ => Nat.mul_lt_mul_of_pos_right (Nat.lt_succ_self _) (by decide)⟩
  next h =>
    exact ⟨hk, lo, hi, fun more => lt_of_le_of_ne hi fun atEnd => h ⟨atEnd, more⟩⟩

theorem progressInCue_iff : s.progressInCue ↔
    (s.seq.state.operating = true → s.loader.progress = .done) ∧
      (s.loader.progress ≠ .done → s.gov.cue = 255) ∧
      (∀ c e, s.path.entry c = some e → 1 ≤ e.n) ∧
      (s.onCue → (s.path.entry s.gov.cue).isSome = true) ∧
      (∀ e, s.path.entry s.gov.cue = some e → onSegment e.n s.gov.k s.gov.q) ∧
      s.gov.achieved ≤ s.gov.q := Iff.rfl

/-- A work that leaves the library, the current cue and the progress on it. -/
theorem State.progressInCue.same (hs : s.progressInCue) (path : t.path = s.path) (cue : t.gov.cue = s.gov.cue)
    (k : t.gov.k = s.gov.k) (q : t.gov.q = s.gov.q) (achieved : t.gov.achieved = s.gov.achieved)
    (progress : t.loader.progress = s.loader.progress)
    (operating : t.seq.state.operating = true → s.seq.state.operating = true) (onCue : t.onCue → s.onCue) :
    t.progressInCue := by
  rw [progressInCue_iff] at *
  rw [path, cue, k, q, achieved, progress]
  obtain ⟨done, idle, segments, present, on, reached⟩ := hs
  exact ⟨fun h => done (operating h), idle, segments, fun h => present (onCue h), on, reached⟩

theorem State.progressInCue.sameBlocks (hs : s.progressInCue) (path : t.path = s.path) (gov : t.gov = s.gov)
    (progress : t.loader.progress = s.loader.progress)
    (operating : t.seq.state.operating = true → s.seq.state.operating = true) (onCue : t.onCue → s.onCue) :
    t.progressInCue :=
  hs.same path (by rw [gov]) (by rw [gov]) (by rw [gov]) (by rw [gov]) progress operating onCue

theorem State.progressInCue.sameSeq (hs : s.progressInCue) (path : t.path = s.path) (gov : t.gov = s.gov)
    (loader : t.loader = s.loader) (seq : t.seq = s.seq) : t.progressInCue :=
  hs.sameBlocks path gov (by rw [loader]) (by rw [seq]; exact id) (by unfold State.onCue; rw [seq]; exact id)

/-- The load progress moves on before DONE. -/
theorem State.progressInCue.starting (hs : s.progressInCue) (path : t.path = s.path) (gov : t.gov = s.gov)
    (before : s.loader.progress ≠ .done) (state : t.seq.state.operating = true → s.seq.state.operating = true) :
    t.progressInCue := by
  rw [progressInCue_iff] at *
  rw [path, gov]
  obtain ⟨done, idle, segments, -, on, reached⟩ := hs
  have not_operating : ¬ t.seq.state.operating = true := fun h => before (done (state h))
  refine ⟨fun h => absurd h not_operating, fun _ => idle before, segments, fun h => absurd ?_ not_operating, on,
    reached⟩
  rcases h with h | h
  · cases hst : t.seq.state with
    | primed | flying | parking => rfl
    | start | ready | stopping | stopped | locked => rw [hst] at h; cases h
  · rw [h]; rfl

theorem StopMade.onCue {cat : Category} (h : StopMade s cat t) : t.onCue → s.onCue := by
  rcases h.stopped_or with ⟨rfl, -⟩ | ⟨-, -, moving, -⟩ | ⟨stopped, -⟩
  · exact id
  · exact fun _ => .inl moving
  · exact fun on => by rcases on with h | h <;> rw [stopped] at h <;> cases h

theorem takeCause_onCue (c : FaultCode) (src : Nat) : (takeCause c src s).onCue → s.onCue :=
  takeCause_induction (P := fun t => t.onCue → s.onCue) (fun _ h => h) c src (fun _ => id) fun _ made => made.onCue

theorem State.progressInCue.cause (hs : s.progressInCue) (c : FaultCode) (src : Nat) :
    (takeCause c src s).progressInCue := by
  have only := takeCause_only s c src
  exact hs.sameBlocks only.path only.gov (by rw [only.loader]) (by rw [takeCause_operating]; exact id)
    (takeCause_onCue c src)

theorem brakeSetConfirmed_onCue : (brakeSetConfirmed s).onCue → s.onCue := by
  by_cases hp : s.seq.state = .parking
  · exact fun _ => .inl (by rw [hp]; rfl)
  by_cases hst : s.seq.state = .stopping ∧ s.stop.phase = .settling
  · exact fun _ => .inr hst.1
  · unfold State.onCue
    rw [(brakeSetConfirmed_only_creep ⟨hp, hst⟩).seq]; exact id

theorem confirmBrake_onCue : (confirmBrake s).onCue → s.onCue := by
  unfold confirmBrake
  dsimp only
  split
  · exact id
  · exact fun h => brakeSetConfirmed_onCue (s := s.withLoop { s.loop with supervision := .matched }) h

theorem brakeSampleWork_onCue (f : Feedback) : (brakeSampleWork f s).onCue → s.onCue := by
  unfold brakeSampleWork
  dsimp only
  split
  · split
    · exact fun h => confirmBrake_onCue (s := s.withLoop { s.loop with brakeSample := f }) h
    · exact id
  · split
    · exact id
    · exact fun h => takeCause_onCue (s := s.withLoop { s.loop with brakeSample := f, supervision := .failed }) _ _ h
  · exact id
  · exact id

/-- A computation moves progress along the segment, or hands over to the next one. -/
theorem State.progressInCue.move (hs : s.progressInCue) (stopping : Bool)
    (moving : s.seq.state = .flying ∨ s.seq.state = .stopping) : (moveProgress stopping s).progressInCue := by
  rw [progressInCue_iff] at *
  obtain ⟨done, idle, segments, present, on, reached⟩ := hs
  have onCue : s.onCue := moving.imp_left fun h => by rw [h]; rfl
  obtain ⟨e, he⟩ := Option.isSome_iff_exists.mp (present onCue)
  obtain ⟨hk, lo, hi, -⟩ := on e he
  have rise := q_le_newProgress stopping s
  have below : s.newProgress stopping ≤ (s.gov.k + 1) * 65536 :=
    max_le hi ((Nat.min_le_left _ _).trans (boundaryClamp_le lo))
  refine ⟨done, idle, segments, present, fun e' he' => ?_, reached.trans rise⟩
  obtain rfl : e = e' := Option.some_injective _ (he.symm.trans he')
  show onSegment e.n (handover s.gov.k s.currentEntry.n (s.newProgress stopping)) (s.newProgress stopping)
  rw [currentEntry_some he]
  exact onSegment_handover hk (lo.trans rise) below

/-- The library of an image: a present entry has a segment, and there is none for cue 255. -/
theorem imagePath_entry {img : List Byte} {c : Nat} {e : CueEntry} (h : (imagePath img).entry c = some e) :
    c < 32 ∧ 1 ≤ e.n := by
  have hc : c < 32 := by
    by_contra past
    have : (imagePath img).entry c = none := by
      simp [PathStore.entry, imagePath, Config.cues, List.getD_eq_getElem?_getD, Nat.not_lt.mp past]
    rw [this] at h; cases h
  refine ⟨hc, ?_⟩
  have entry : (imagePath img).entry c = imageEntry img c := by
    simp [PathStore.entry, imagePath, Config.cues, List.getD_eq_getElem?_getD, hc]
  rw [entry, imageEntry] at h
  split at h
  · cases h
  next present => cases h; exact Nat.one_le_iff_ne_zero.mpr present

theorem State.progressInCue.imageCheck (hs : s.progressInCue) : (imageCheckWork s).progressInCue := by
  unfold imageCheckWork
  split
  next checking =>
    have before : s.loader.progress ≠ .done := by rw [checking]; decide
    split
    · exact hs.starting rfl rfl before (nomatch ·)
    · rw [progressInCue_iff] at *
      obtain ⟨done, idle, -, -, -, reached⟩ := hs
      have cue : s.gov.cue = 255 := idle before
      refine ⟨fun h => absurd (done h) before, fun _ => cue, fun c e h => (imagePath_entry h).2, fun h => ?_,
        fun e h => ?_, reached⟩
      · have operating : s.seq.state.operating = true := by
          rcases h with h | h
          · change s.seq.state.inFlight = true at h
            cases hst : s.seq.state with
            | primed | flying | parking => rfl
            | start | ready | stopping | stopped | locked => rw [hst] at h; cases h
          · change s.seq.state = .stopping at h
            rw [h]; rfl
        exact absurd (done operating) before
      · have : s.gov.cue < 32 := (imagePath_entry h).1
        omega
  next => exact hs

theorem State.progressInCue.windowEnd (hs : s.progressInCue) : (listenWindowEndWork s).progressInCue := by
  by_cases h : s.windowOver = true
  · obtain ⟨held, loader, -⟩ := listenWindowEndWork_held h
    have only := listenWindowEndWork_only s
    rw [progressInCue_iff] at *
    obtain ⟨-, -, segments, -, on, reached⟩ := hs
    rw [only.path, only.gov, loader]
    refine ⟨fun _ => rfl, fun h => absurd rfl h, segments, fun on => ?_, on, reached⟩
    rcases held with h | h <;> rcases on with on | on <;> rw [h] at on <;> cases on
  · rwa [listenWindowEndWork_notDue (Bool.eq_false_iff.mpr h)]

theorem State.progressInCue.op (h : Op s t) (hs : s.progressInCue) : t.progressInCue := by
  cases h with
  | lstopEdge | dip | lineState | request | attempt | attemptEnd | cycle | markRequested | peers | holds
  | enableRecord | reading | read | load | sequencer | speed | inputs => exact hs
  | elapse n => exact hs.sameBlocks rfl rfl (elapse_progress n s) id id
  | withdraw =>
    have only := withdrawMark_only s
    exact hs.sameSeq only.path only.gov only.loader only.seq
  | tickStop =>
    have only := tickStop_only s
    exact hs.sameSeq only.path only.gov only.loader only.seq
  | tickBrake =>
    have only := tickBrake_only s
    exact hs.sameSeq only.path only.gov only.loader only.seq
  | tickListen => unfold tickListen; split <;> exact hs
  | tension x =>
    unfold tensionSampleWork
    split
    · refine hs.sameBlocks rfl rfl ?_ id id
      show (s.loader.countSample x).progress = _
      unfold ImageLoader.countSample
      split <;> rfl
    · exact hs
  | latch => unfold latchTension; split <;> exact hs
  | fly primed => exact hs.sameBlocks rfl rfl rfl (fun _ => by rw [primed]; rfl) fun _ => .inl (by rw [primed]; rfl)
  | park moving =>
    have only := enterParking_only s
    have gov : (enterParking s).gov = { s.gov with dPrev := 0 } := (commandBrake_only s.parkingEntry .set).gov
    have flight : s.seq.state.inFlight = true ∧ s.seq.state.operating = true := by
      rcases moving with h | h <;> rw [h] <;> exact ⟨rfl, rfl⟩
    exact hs.same only.path (by rw [gov]) (by rw [gov]) (by rw [gov]) (by rw [gov]) (by rw [only.loader])
      (fun _ => flight.2) fun _ => .inl flight.1
  | move stopping moving => exact hs.move stopping moving
  | follow =>
    unfold judgeFollow
    split
    · rw [progressInCue_iff] at *
      obtain ⟨done, idle, segments, present, on, -⟩ := hs
      exact ⟨done, idle, segments, present, on, le_rfl⟩
    · exact hs
  | settleStop =>
    by_cases hst : s.seq.state = .stopping
    · have only := settleTest_only s
      exact hs.sameBlocks only.path only.gov (by rw [only.loader]) (by rw [settleTest_operating]; exact id)
        fun _ => .inr hst
    · rwa [settleTest, if_neg fun h => hst h.1]
  | cause c src => exact hs.cause c src
  | duplicate operating =>
    have taken := hs.cause .duplicateStation s.own
    unfold takeDuplicate
    dsimp only
    split
    · exact taken
    · exact taken
  | brakeSample f =>
    have only := brakeSampleWork_only s f
    exact hs.sameBlocks only.path only.gov (by rw [only.loader]) (by rw [brakeSampleWork_operating]; exact id)
      (brakeSampleWork_onCue f)
  | brakeFails => exact State.progressInCue.cause (s := s.withLoop { s.loop with supervision := .failed }) hs _ _
  | lock => exact hs.sameBlocks rfl rfl rfl (nomatch ·) fun h => by rcases h with h | h <;> cases h
  | memoryRead waiting => exact hs.starting rfl rfl (by rw [waiting]; decide) id
  | fixedBytes bytes =>
    unfold fixedBytesWork
    split
    next h =>
      split
      · have only := lockFromLoader_only (s.withLoader { s.loader with buffer := bytes, msel := false })
          .image 255 .image
        exact hs.starting only.path only.gov (by rw [h.1]; decide) (nomatch ·)
      · exact hs
    next => exact hs
  | imageRead bytes =>
    unfold imageReadWork
    split
    next h => exact hs.starting rfl rfl (by rw [h.1]; decide) id
    next => exact hs
  | imageCheck => exact hs.imageCheck
  | settleIn => unfold settleInEndWork; split <;> exact hs
  | measure =>
    unfold measureEndWork
    split
    next h =>
      simp only [State.shuntPhaseOver, Bool.and_eq_true, beq_iff_eq] at h
      dsimp only
      split
      · exact hs
      · have only := lockFromLoader_only
          (s.withLoader { s.loader with shunt := false, shuntPhase := .settleOut, shuntCount := 0 })
          .selfCheck s.own .selfCheck
        exact hs.starting only.path only.gov (by rw [h.1.1]; decide) (nomatch ·)
    next => exact hs
  | settleOut =>
    unfold settleOutEndWork
    split
    next h =>
      simp only [State.shuntPhaseOver, Bool.and_eq_true, beq_iff_eq] at h
      exact hs.starting rfl rfl (by rw [h.1.1]; decide) id
    next => exact hs
  | windowEnd => exact hs.windowEnd

theorem goChecks_entry {n : Nat} {e : CueEntry} (h : s.goChecks n = .ok e) : s.path.entry n = some e := by
  have ready := goChecks_state h
  unfold State.goChecks at h
  rw [if_neg (not_not.mpr ready)] at h
  split at h
  · cases h
  next e' he =>
    repeat' split at h
    all_goals cases h
    exact he

/-- The directory is empty at reset (R71). -/
theorem reset_entry (c : Nat) : State.reset.path.entry c = none :=
  (List.getD_eq_getElem?_getD ..).trans (List.getElem?_getD_replicate_default_eq (d := none) 32 c)

theorem reset_progressInCue : State.reset.progressInCue := by
  rw [progressInCue_iff]
  refine ⟨(nomatch ·), fun _ => rfl, fun c e h => ?_, fun h => ?_, fun e h => ?_, le_rfl⟩
  · rw [reset_entry] at h; cases h
  · rcases h with h | h <;> cases h
  · rw [reset_entry] at h; cases h

theorem progressInCue_kept : Kept State.progressInCue where
  op := fun h hs => hs.op h
  go := by
    rintro s t ⟨n, e, hchecks, rfl⟩ hs
    have only := acceptGo_only s n e
    rw [progressInCue_iff] at *
    obtain ⟨done, -, segments, -, -, -⟩ := hs
    have progress : s.loader.progress = .done := done (by rw [goChecks_state hchecks]; rfl)
    have entry := goChecks_entry hchecks
    rw [only.path, only.loader, acceptGo_gov, progress]
    refine ⟨fun _ => rfl, fun h => absurd rfl h, segments, fun _ => by rw [entry]; rfl, fun e' he => ?_, le_rfl⟩
    exact onSegment_start (segments n e' he)
  clear := by
    rintro s t ⟨hst, -, rfl⟩ hs
    have only := acceptClear_only s
    exact hs.sameBlocks only.path only.gov (by rw [only.loader]) (fun _ => by rw [hst]; rfl)
      fun h => by rcases h with h | h <;> cases h
  reset := fun _ _ => reset_progressInCue
  queue := fun _ hs => hs

/-- Settles O9, piece of work by piece of work. -/
theorem everyStepKeepsProgressInCue : Obligations.EveryStepKeepsProgressInCue := by
  unfold Obligations.EveryStepKeepsProgressInCue
  exact fun s t hs h => progressInCue_kept.step hs h

/-- Settles O10: what every step keeps holds at reset. -/
theorem resetMeetsTheInvariants : Obligations.ResetMeetsTheInvariants := by
  unfold Obligations.ResetMeetsTheInvariants
  exact ⟨brakeOnDrive_kept.reset false [], (outputsFit_kept.reset false []).2, recordFits_kept.reset false [],
    slotsInOrder_kept.reset false [], filterTotals_kept.reset false [], reset_countsInRange, reset_progressInCue⟩

/-- Settles O3: the reset state field by field. -/
theorem resetSetsEveryBlock : Obligations.ResetSetsEveryBlock := by
  unfold Obligations.ResetSetsEveryBlock
  intro s
  refine ⟨{ State.reset with dipLevel := s.dipLevel, pending := s.pending }, rfl, ?_⟩
  refine ⟨rfl, rfl, rfl, rfl, rfl, rfl, rfl, rfl, rfl, rfl, rfl, reset_entry, rfl, rfl, rfl, rfl, ?_⟩
  refine ⟨rfl, rfl, rfl, rfl, rfl, rfl, rfl, rfl, rfl, rfl, rfl, rfl, rfl, rfl, rfl, rfl, fun x hx => ?_, ?_⟩
  · exact List.mem_singleton.mp hx
  · exact ⟨rfl, rfl, ⟨rfl, rfl, rfl, rfl⟩, rfl, rfl, rfl, rfl, rfl, rfl, rfl, rfl, rfl, rfl, rfl, rfl, rfl, rfl, rfl, rfl⟩

/-! ### One step of the block -/

theorem step_of_idle (h : s.pending = []) : step s = idle s := by
  unfold step takeCommand; rw [h]

theorem idle_due {c : Instr} (h : s.dueEvent = some c) : idle s = exec c s := by unfold idle; rw [h]

theorem idle_clock (h : s.dueEvent = none) : idle s = .next (elapse 1 s) := by unfold idle; rw [h]

theorem dueEvent_of_arrival {c : Instr} (h : s.dueArrival = some c) : s.dueEvent = some c := by
  unfold State.dueEvent; rw [h]

theorem dueEvent_of_none (h : s.dueArrival = none) : s.dueEvent = s.dueClockEvent := by
  unfold State.dueEvent; rw [h]

theorem ite_some_eq_none_iff {α : Type} {p : Prop} [Decidable p] {a : α} {x : Option α} :
    (if p then some a else x) = none ↔ ¬ p ∧ x = none := by
  split <;> simp [*]

/-- The arrivals that `dueArrival` looks for are those whose absence makes a state quiet. -/
theorem dueArrival_none_iff : s.dueArrival = none ↔ s.quiet = true := by
  simp only [State.dueArrival, ite_some_eq_none_iff, State.quiet, Bool.and_eq_true, Bool.not_eq_true',
    Bool.and_eq_false_imp, bne_iff_ne, ne_eq, not_not, beq_iff_eq, decide_eq_false_iff_not, not_and,
    Bool.not_eq_true, and_true, and_assoc, Bool.not_eq_false]

theorem ite_some_cases {α : Type} {p : Prop} [Decidable p] {a c : α} {x : Option α}
    (h : (if p then some a else x) = some c) : (c = a ∧ p) ∨ x = some c := by
  split at h
  next hp => exact .inl ⟨(Option.some_injective _ h).symm, hp⟩
  next => exact .inr h

theorem shuntPhaseOver_iff {p : ShuntPhase} : s.shuntPhaseOver p = true ↔
    s.loader.progress = .shunt ∧ s.loader.shuntPhase = p ∧ p.samples ≤ s.loader.shuntCount := by
  simp [State.shuntPhaseOver, and_assoc]

/-- The clock's own event in a state with no arrival due, in the order of `dueClockEvent`. -/
theorem mayRequestMark_iff : s.mayRequestMark = true ↔
    s.seq.state.operating = true ∧ s.clock.running = true ∧ s.clock.markRequested = false := by
  simp [State.mayRequestMark, and_assoc]

/-- The lamp after `n` clocks of a pattern that runs with halves of `h`. -/
theorem elapse_lamp {h : Nat} (n : Nat) (running : s.blinkRunning = some h) :
    ((elapse n s).stop.blinkOn = s.stop.blinkOn ↔ (s.stop.blinkClk + n) / h % 2 = 0) ∧
      (elapse n s).stop.blinkClk = (s.stop.blinkClk + n) % h := by
  show ((s.elapseStop n).blinkOn = _ ↔ _) ∧ (s.elapseStop n).blinkClk = _
  simp only [State.elapseStop, running]
  refine ⟨?_, rfl⟩
  show (if (s.stop.blinkClk + n) / h % 2 = 1 then !s.stop.blinkOn else s.stop.blinkOn) = s.stop.blinkOn ↔ _
  split
  next odd => simp [odd]
  next even => simpa using even

theorem elapse_lamp_still (n : Nat) (still : s.blinkRunning = none) :
    (elapse n s).stop.blinkOn = s.stop.blinkOn ∧ (elapse n s).stop.blinkClk = s.stop.blinkClk := by
  show (s.elapseStop n).blinkOn = _ ∧ (s.elapseStop n).blinkClk = _
  simp only [State.elapseStop, still, and_self]

theorem elapse_stop_eq (n : Nat) (s : State) : (elapse n s).stop = { s.stop with
    dipTimer := if s.dipLevel = true then min 1000 (s.stop.dipTimer + (s.clock.clkDiv + n) / 25) else s.stop.dipTimer
    blinkOn := (elapse n s).stop.blinkOn, blinkClk := (elapse n s).stop.blinkClk } := by
  cases running : s.blinkRunning with
  | none =>
    obtain ⟨on, clk⟩ := elapse_lamp_still n running
    rw [on, clk]
    show s.elapseStop n = _
    simp only [State.elapseStop, running]
    rfl
  | some h =>
    show s.elapseStop n = { s.stop with
      dipTimer := if s.dipLevel = true then min 1000 (s.stop.dipTimer + (s.clock.clkDiv + n) / 25)
        else s.stop.dipTimer
      blinkOn := (s.elapseStop n).blinkOn, blinkClk := (s.elapseStop n).blinkClk }
    simp only [State.elapseStop, running]
    rfl

/-- Settles O1: the queue, the due events in their order, and the passing of time field by field. -/
theorem stepTakesTheFrontCommandOrIdles : Obligations.StepTakesTheFrontCommandOrIdles := by
  unfold Obligations.StepTakesTheFrontCommandOrIdles
  refine ⟨fun c rest s h => step_of_pending h, fun s h => ?idle, fun s h quiet => ?clock,
    fun s => ⟨dueArrival_none_iff, fun c hc => ?arrival⟩, fun n s => ?time⟩
  case idle =>
    rw [step_of_idle h]
    exact ⟨idle_clock, fun c => idle_due⟩
  case clock =>
    intro cycleEnds markDue waitEnds
    have due := dueEvent_of_none (dueArrival_none_iff.mpr quiet)
    have mark : (s.mayRequestMark && decide (s.markDueTime ≤ s.clock.timer)) = true ↔ markDue := by
      rw [Bool.and_eq_true, mayRequestMark_iff, decide_eq_true_iff, and_assoc, and_assoc]; rfl
    have ends : (s.clock.running = true ∧ cycleExpiry ≤ s.clock.timer) ↔ cycleEnds := Iff.rfl
    have wait : (s.loader.progress = .wait ∧ waitClocks ≤ s.loader.waitClk) ↔ waitEnds := Iff.rfl
    rw [step_of_idle h]
    refine ⟨fun cycle => idle_due ?_, fun due' cycle => idle_due ?_, fun waits cycle due' => idle_due ?_,
      fun cycle due' waits => idle_clock ?_⟩
    · rw [due, State.dueClockEvent, if_pos (ends.mpr cycle)]
    · rw [due, State.dueClockEvent, if_neg (mt ends.mp cycle), if_pos (mark.mpr due')]
    · rw [due, State.dueClockEvent, if_neg (mt ends.mp cycle), if_neg (mt mark.mp due'), if_pos (wait.mpr waits)]
    · rw [due, State.dueClockEvent, if_neg (mt ends.mp cycle), if_neg (mt mark.mp due'), if_neg (mt wait.mp waits)]
  case arrival =>
    refine ⟨fun h => by rw [step_of_idle h, idle_due (dueEvent_of_arrival hc)], ?_⟩
    unfold State.dueArrival at hc
    rcases ite_some_cases hc with ⟨rfl, h⟩ | hc
    · exact .inl ⟨rfl, bne_iff_ne.mp h⟩
    rcases ite_some_cases hc with ⟨rfl, h⟩ | hc
    · exact .inr (.inl ⟨rfl, by simpa using h⟩)
    rcases ite_some_cases hc with ⟨rfl, h⟩ | hc
    · exact .inr (.inr (.inl ⟨rfl, h⟩))
    rcases ite_some_cases hc with ⟨rfl, h⟩ | hc
    · exact .inr (.inr (.inr (.inl ⟨rfl, h⟩)))
    rcases ite_some_cases hc with ⟨rfl, h⟩ | hc
    · exact .inr (.inr (.inr (.inr (.inl ⟨rfl, h⟩))))
    rcases ite_some_cases hc with ⟨rfl, h⟩ | hc
    · refine .inr (.inr (.inr (.inr (.inr (.inl ⟨rfl, fun same => bne_iff_ne.mp h ?_⟩)))))
      rw [Bool.eq_iff_iff, decide_eq_true_iff]; exact same
    rcases ite_some_cases hc with ⟨rfl, h⟩ | hc
    · exact .inr (.inr (.inr (.inr (.inr (.inr (.inl ⟨rfl, windowOver_iff.mp h⟩))))))
    rcases ite_some_cases hc with ⟨rfl, h⟩ | hc
    · exact .inr (.inr (.inr (.inr (.inr (.inr (.inr (.inl ⟨rfl, h⟩)))))))
    refine .inr (.inr (.inr (.inr (.inr (.inr (.inr (.inr ?_)))))))
    rcases ite_some_cases hc with ⟨rfl, h⟩ | hc
    · obtain ⟨progress, phase⟩ := shuntPhaseOver_iff.mp h
      exact ⟨progress, .inl ⟨rfl, phase⟩⟩
    rcases ite_some_cases hc with ⟨rfl, h⟩ | hc
    · obtain ⟨progress, phase⟩ := shuntPhaseOver_iff.mp h
      exact ⟨progress, .inr (.inl ⟨rfl, phase⟩)⟩
    rcases ite_some_cases hc with ⟨rfl, h⟩ | hc
    · obtain ⟨progress, phase⟩ := shuntPhaseOver_iff.mp h
      exact ⟨progress, .inr (.inr ⟨rfl, phase⟩)⟩
    · cases hc
  case time =>
    intro t us half
    have loader : t.loader = { s.loader with
        waitClk := if s.loader.progress = .wait then min 25000 (s.loader.waitClk + n) else s.loader.waitClk } := by
      show s.elapseLoader n = _
      unfold State.elapseLoader
      split <;> rfl
    refine ⟨rfl, elapse_only s n, rfl, rfl, loader, elapse_stop_eq n s, fun h => elapse_lamp n ?_,
      fun h => elapse_lamp n ?_, fun h => elapse_lamp_still n ?_⟩
    · rw [State.blinkRunning, if_pos h.1, h.2]; rfl
    · rw [State.blinkRunning, if_pos h.1, h.2]; rfl
    · unfold State.blinkRunning
      split
      next locked => rcases h with h | h | h <;> [exact absurd locked h; rw [h]; rw [h]] <;> rfl
      next => rfl

end Sys2Proof.Machine
end

section
/-!
SUPPORT. What a SET command leaves in the Line Loop, and the taking of a cause by its category, the state and the
category in force, as the statements about causes read it (chapters 7 and 9).
-/

namespace Sys2Proof.Machine

set_option Elab.async false

variable {s t : State}

/-! ### The Line Loop after a SET command -/

/-- The Line Loop in operation with SET commanded: left where SET stood already, otherwise restarted on SET and confirmed
at once by a sample that shows set (R111, R113, R114). -/
def LineLoop.setCommanded (l : LineLoop) : LineLoop :=
  if l.brake = .set then l
  else { l with
    brake := .set, supervision := if l.brakeSample = .set then .matched else .waiting, supTimer := 0 }

theorem commandBrake_set_loop (h : s.noStopToComplete) (ho : s.seq.state.operating = true) :
    (commandBrake .set s).loop = s.loop.setCommanded := by
  unfold LineLoop.setCommanded
  split
  next hb => rw [commandBrake_same hb]
  next hb =>
    rw [commandBrake_set_change hb ho]
    split
    next sample => rw [(brakeSetConfirmed_only_creep (s := s.setOn .matched) h).loop]; rfl
    next => rfl

theorem setCommanded_of_set {l : LineLoop} (h : l.brake = .set) : l.setCommanded = l := if_pos h

/-- The statements' words for a SET command, over a Line Loop that differs in its target and its drive. -/
theorem brakeCommandedSet_of_loop {l : LineLoop} (brake : l.brake = s.loop.brake)
    (supervision : l.supervision = s.loop.supervision) (timer : l.supTimer = s.loop.supTimer)
    (sample : l.brakeSample = s.loop.brakeSample) (h : t.loop = l.setCommanded) :
    s.brakeCommandedSet l.drive t := by
  unfold State.brakeCommandedSet
  rw [h]
  by_cases hb : s.loop.brake = .set
  · rw [if_pos hb, setCommanded_of_set (brake.trans hb)]
    exact ⟨brake.trans hb, rfl, supervision, timer⟩
  · rw [if_neg hb, LineLoop.setCommanded, if_neg (by rwa [brake]), ← sample]
    exact ⟨rfl, rfl, rfl, rfl⟩

theorem setCommanded_drive (l : LineLoop) : l.setCommanded.drive = l.drive := by
  unfold LineLoop.setCommanded; split <;> rfl

theorem setCommanded_brake (l : LineLoop) : l.setCommanded.brake = .set := by
  unfold LineLoop.setCommanded
  split
  · assumption
  · rfl

theorem setCommanded_duty (l : LineLoop) : l.setCommanded.duty = l.duty ∧ l.setCommanded.speed = l.speed := by
  unfold LineLoop.setCommanded; split <;> exact ⟨rfl, rfl⟩

theorem setCommanded_targets (l : LineLoop) : l.setCommanded.target = l.target ∧
    l.setCommanded.prevTarget = l.prevTarget ∧ l.setCommanded.assistTarget = l.assistTarget := by
  unfold LineLoop.setCommanded; split <;> exact ⟨rfl, rfl, rfl⟩

/-- With the ASSIST flag set, a confirmation of the brake is not the Creep Watch's (R133, assumption log 22). -/
theorem commandBrake_set_assist_creep (hs : s.seq.state = .stopped) (ha : s.stop.assist = true) :
    (commandBrake .set s).creep = s.creep := by
  by_cases hb : s.loop.brake = .set
  · rw [commandBrake_same hb]
  · rw [commandBrake_set_change hb (by rw [hs]; rfl)]
    split
    · have still : brakeSetConfirmed (s.setOn .matched) = s.setOn .matched := by
        have : (s.setOn .matched).seq.state = .stopped := hs
        unfold brakeSetConfirmed
        rw [this]
        exact if_pos ha
      rw [still]; rfl
    · rfl

/-! ### The stops by the brake -/

/-- The state of an immediate stop (R111, R140). -/
def dropped (s : State) : State := immediateRequest (stoppedIn .immediate s)

/-- The state of a stop with ASSIST (R118, R140). -/
def assisted (s : State) : State := assistRequest (stoppedIn .assist s)

/-- Where SET stands already, the stop is the drive's alone. -/
theorem dropped_standing (h : s.loop.brake = .set) : dropped s = driveOff (stoppedIn .immediate s) :=
  commandBrake_same (s := driveOff (stoppedIn .immediate s)) h

theorem assisted_standing (h : s.loop.brake = .set) :
    assisted s = (stoppedIn .assist s).withLoop s.assistLoop :=
  commandBrake_same (s := (stoppedIn .assist s).withLoop s.assistLoop) h

theorem enterCategory_immediate {x : StopController} (h : x.assist = false) :
    x.enterCategory .immediate = { x with category := .immediate } := by
  unfold StopController.enterCategory; rw [h]; rfl

theorem dropped_seq (s : State) : (dropped s).seq = { s.seq with state := .stopped } :=
  (immediateRequest_standing (noStopToComplete_of_stopped rfl)).1

theorem dropped_stop (s : State) : (dropped s).stop = s.stop.enterCategory .immediate :=
  (immediateRequest_only _).stop

theorem dropped_record (s : State) : (dropped s).stop.first = s.stop.first ∧ (dropped s).stop.later = s.stop.later ∧
    (dropped s).stop.category = .immediate ∧ (dropped s).stop.assist = false := by
  rw [dropped_stop]; exact ⟨rfl, rfl, rfl, rfl⟩

theorem dropped_loop (s : State) :
    (dropped s).loop = LineLoop.setCommanded { s.loop with drive := false, duty := 512, speed := 0 } :=
  commandBrake_set_loop (s := driveOff (stoppedIn .immediate s)) (noStopToComplete_of_stopped rfl) rfl

theorem dropped_brake (s : State) : s.brakeCommandedSet false (dropped s) :=
  brakeCommandedSet_of_loop (l := { s.loop with drive := false, duty := 512, speed := 0 }) rfl rfl rfl rfl
    (dropped_loop s)

theorem dropped_duty (s : State) : (dropped s).loop.duty = 512 ∧ (dropped s).loop.speed = 0 := by
  rw [dropped_loop]; exact setCommanded_duty _

theorem assisted_seq (s : State) : (assisted s).seq = { s.seq with state := .stopped } :=
  (assistRequest_standing (noStopToComplete_of_stopped rfl)).1

theorem assisted_stop (s : State) : (assisted s).stop = s.stop.enterCategory .assist := (assistRequest_only _).stop

theorem assisted_record (s : State) : (assisted s).stop.first = s.stop.first ∧
    (assisted s).stop.later = s.stop.later ∧ (assisted s).stop.category = .assist ∧
    (assisted s).stop.assist = true := by
  rw [assisted_stop]; exact ⟨rfl, rfl, rfl, rfl⟩

theorem assisted_loop (s : State) : (assisted s).loop = s.assistLoop.setCommanded :=
  commandBrake_set_loop (s := (stoppedIn .assist s).withLoop s.assistLoop) (noStopToComplete_of_stopped rfl) rfl

theorem assisted_creep (s : State) : (assisted s).creep = s.creep :=
  commandBrake_set_assist_creep (s := (stoppedIn .assist s).withLoop s.assistLoop) rfl rfl

theorem assisted_brake (s : State) : s.brakeCommandedSet true (assisted s) :=
  brakeCommandedSet_of_loop (l := s.assistLoop) rfl rfl rfl rfl (assisted_loop s)

theorem assisted_target (s : State) : s.heldByDrive (assisted s) := by
  unfold State.heldByDrive
  rw [assisted_loop]
  obtain ⟨target, previous, assist⟩ := setCommanded_targets s.assistLoop
  exact ⟨assist, target, previous⟩

/-! ### The intake, category by category -/

section
variable {c : FaultCode} {src : Nat}

theorem intake_immediate (ho : s.seq.state.operating = true) (hc : c.category = .immediate)
    (hf : s.seq.state = .stopped → s.stop.category = .controlled ∨ s.stop.category = .assist) :
    intake c src s = dropped (s.withStop (s.stop.record c src)) := by
  have made := intake_made (s := s) c src ho
  rw [hc] at made
  generalize intake c src s = v at made
  cases made with
  | inForce h =>
    have category : (s.stop.record c src).category = s.stop.category := record_category _ _ _
    rcases h with ⟨-, h⟩ | ⟨hs, h | h | h | ⟨h, -⟩⟩
    · cases h
    · cases h
    · rcases hf hs with h' | h' <;> cases h'.symm.trans (category.symm.trans h)
    · rcases hf hs with h' | h' <;> cases h'.symm.trans (category.symm.trans h)
    · cases h
  | brakeStands h => cases h
  | ramps h => cases h
  | drops => rfl
  | holds h => cases h

theorem intake_assist (ho : s.seq.state.operating = true) (hc : c.category = .assist)
    (hf : s.seq.state = .stopped → s.stop.category = .controlled) :
    intake c src s = assisted (s.withStop (s.stop.record c src)) := by
  have made := intake_made (s := s) c src ho
  rw [hc] at made
  generalize intake c src s = v at made
  cases made with
  | inForce h =>
    have category : (s.stop.record c src).category = s.stop.category := record_category _ _ _
    rcases h with ⟨-, h⟩ | ⟨hs, h | h | h | ⟨-, h⟩⟩
    · cases h
    · cases h
    all_goals cases (hf hs).symm.trans (category.symm.trans h)
  | brakeStands h => cases h
  | ramps h => cases h
  | drops h => cases h
  | holds => rfl

/-- A cause that Table 9-4 only records. -/
theorem intake_inForce (hs : s.seq.state = .stopped)
    (hf : c.category = .controlled ∨ s.stop.category = .immediate ∨
      c.category = .assist ∧ s.stop.category = .assist) :
    intake c src s = s.withStop (s.stop.record c src) := by
  have made := intake_made (s := s) c src (by rw [hs]; rfl)
  have category : (s.stop.record c src).category = s.stop.category := record_category _ _ _
  have state : (s.withStop (s.stop.record c src)).seq.state = .stopped := hs
  generalize intake c src s = v at made
  cases made with
  | inForce => rfl
  | brakeStands _ h => cases state.symm.trans h
  | ramps _ h => rw [state] at h; cases h
  | drops hi h =>
    rcases hf with h' | h' | ⟨h', -⟩
    · cases hi.symm.trans h'
    · exact absurd (category.trans h') (h state)
    · cases hi.symm.trans h'
  | holds ha h =>
    have controlled := category.symm.trans (h state)
    rcases hf with h' | h' | ⟨-, h'⟩
    · cases ha.symm.trans h'
    · cases controlled.symm.trans h'
    · cases controlled.symm.trans h'

/-! ### The STOP frame of a cause (R141) -/

theorem takeCause_eq_withLink (ho : s.seq.state.operating = true) :
    ∃ x, takeCause c src s = (intake c src s).withLink x := by
  rcases takeCause_eq_or c src ho with h | h
  · exact ⟨_, h⟩
  · exact ⟨_, h⟩

/-- The STOP frame that a cause requests. -/
def State.stopRequested (s : State) (c : FaultCode) : LinkPort :=
  s.link.setSlot .stop (s.link.stopSlot.request (stopBody s.ownGroup c.code s.own))

theorem takeCause_frame (ho : s.seq.state.operating = true) (hc : changesCategory c.category s = true) :
    (c.sent = true → (takeCause c src s).link = s.stopRequested c) ∧
      (¬ c.sent = true → (takeCause c src s).link = s.link) := by
  have link : (intake c src s).link = s.link := (intake_only s c src).link
  refine ⟨fun sent => ?_, fun unsent => ?_⟩
  · rw [takeCause_sent src ho sent, if_pos hc]
    show (intake c src s).link.setSlot .stop (((intake c src s).link.slot .stop).request _) = _
    rw [link]; rfl
  · rw [takeCause_unsent src ho (Bool.eq_false_iff.mpr unsent)]; exact link

theorem takeCause_noFrame (ho : s.seq.state.operating = true) (hc : changesCategory c.category s = false) :
    takeCause c src s = intake c src s := by
  unfold takeCause
  rw [ho, hc, Bool.and_false]
  rfl

theorem changesCategory_opens (h : s.seq.state = .ready ∨ s.seq.state.inFlight = true) (cat : Category) :
    changesCategory cat s = true := by
  unfold changesCategory
  cases hs : s.seq.state with
  | ready | primed | flying | parking => rfl
  | start | stopping | stopped | locked => rw [hs] at h; rcases h with h | h <;> cases h

theorem changesCategory_stopping (h : s.seq.state = .stopping) {cat : Category}
    (hc : cat = .immediate ∨ cat = .assist) : changesCategory cat s = true := by
  unfold changesCategory
  rw [h]
  rcases hc with rfl | rfl <;> rfl

theorem changesCategory_stopped (h : s.seq.state = .stopped) {cat : Category}
    (hc : s.stop.category = .controlled ∧ (cat = .immediate ∨ cat = .assist) ∨
      s.stop.category = .assist ∧ cat = .immediate) : changesCategory cat s = true := by
  unfold changesCategory
  rw [h]
  rcases hc with ⟨hs, rfl | rfl⟩ | ⟨hs, rfl⟩ <;> simp [hs]

/-- A controlled cause does not change a stop in force, and no cause changes an immediate one. -/
theorem changesCategory_inForce (h : s.seq.state = .stopping ∧ c.category = .controlled ∨
    s.seq.state = .stopped ∧ (c.category = .controlled ∨ s.stop.category = .immediate ∨
      c.category = .assist ∧ s.stop.category = .assist)) : changesCategory c.category s = false := by
  unfold changesCategory
  rcases h with ⟨hs, hc⟩ | ⟨hs, h⟩
  · rw [hs, hc]; rfl
  · rw [hs]
    rcases h with h | h | ⟨hc, h⟩
    · rw [h]; cases s.stop.category <;> rfl
    · rw [h]
    · rw [hc, h]

end

/-! ### Tables 9-2 to 9-4 -/

/-- The causes that Table 9-2 gives category CONTROLLED. -/
theorem category_controlled_iff {c : FaultCode} : c.category = .controlled ↔
    c ∈ [FaultCode.lostMember, .memberStopped, .groupStop, .consoleStop, .overload, .slackTimeout, .linkMute] := by
  cases c <;> decide

theorem category_assist_iff {c : FaultCode} :
    c.category = .assist ↔ c ∈ [FaultCode.brakeNotSet, .brakeSlip] := by
  cases c <;> decide

theorem category_immediate_iff {c : FaultCode} :
    c.category = .immediate ↔ ¬ c.category = .controlled ∧ ¬ c.category = .assist := by
  cases c <;> decide

theorem sent_iff {c : FaultCode} : c.sent = true ↔
    c ∈ [FaultCode.lostMember, .overload, .slackTimeout, .followTrip, .encoder, .driveFault, .localStop, .supplyDip,
      .brakeNotReleased, .brakeNotSet, .brakeSlip, .linkMute] := by
  cases c <;> decide

section
variable {c : FaultCode} {src : Nat}

/-- In STOPPED without ASSIST the drive is off and the brake set, so a drop changes nothing of the Line Loop. -/
theorem dropped_loop_of_off (drive : s.loop.drive = false) (duty : s.loop.dutyFits) (brake : s.loop.brake = .set) :
    (dropped s).loop = s.loop := by
  obtain ⟨off, -⟩ := duty
  obtain ⟨speed, duty⟩ := off drive
  have same : { s.loop with drive := false, duty := 512, speed := 0 } = s.loop := by
    rw [← drive, ← speed, ← duty]
  rw [dropped_loop, same, setCommanded_of_set brake]

theorem State.outputsFit.stopped (hs : s.outputsFit) (h : s.seq.state = .stopped) :
    s.loop.brake = .set ∧ s.loop.drive = s.stop.assist := by
  refine ⟨hs.brakeOnDrive.brake_set (by simp [h]) (by simp [h]) (by simp [h]), hs.drive.trans ?_⟩
  unfold State.driveWanted; rw [h]

/-- A cause taken out of a stop opens the record and starts the stop of its category (Table 9-3). -/
theorem takeCause_opens (hs : s.seq.state = .ready ∨ s.seq.state.inFlight = true) (hr : s.recordEmpty) :
    let t := takeCause c src s
    t.stop.first = some (c, src) ∧ t.stop.later = 0#24 ∧
      ((c.sent = true → t.link = s.stopRequested c) ∧ (¬ c.sent = true → t.link = s.link)) ∧
      s.changesOnly [.link, .seq, .loop, .creep, .stop] t ∧
      (c.category = .controlled → t.stop.category = .controlled ∧ t.stop.assist = false ∧ t.loop = s.loop ∧
        t.creep = s.creep ∧
        (s.seq.state = .ready → t.seq = { s.seq with state := .stopped }) ∧
        (s.seq.state ≠ .ready → t.seq = { s.seq with state := .stopping } ∧
          t.stop.phase = .ramping ∧ t.stop.stopTimer = 0)) ∧
      (c.category = .immediate → t.stop.category = .immediate ∧ t.stop.assist = false ∧
        t.seq = { s.seq with state := .stopped } ∧ s.brakeCommandedSet false t ∧ t.loop.duty = 512 ∧
        t.loop.speed = 0) ∧
      (c.category = .assist → t.stop.category = .assist ∧ t.stop.assist = true ∧
        t.seq = { s.seq with state := .stopped } ∧ s.brakeCommandedSet true t ∧ s.heldByDrive t ∧
        t.creep = s.creep) := by
  have ho : s.seq.state.operating = true := by
    rcases hs with h | h
    · rw [h]; rfl
    · cases hst : s.seq.state with
      | primed | flying | parking => rfl
      | start | ready | stopping | stopped | locked => rw [hst] at h; cases h
  have out : ¬ s.seq.state = .stopped := fun h => by rw [h] at hs; rcases hs with h | h <;> cases h
  obtain ⟨first, later, category, assist⟩ := id hr
  let u : State := s.withStop { s.stop with first := some (c, src) }
  have recorded : s.withStop (s.stop.record c src) = u := by rw [record_opens first]
  obtain ⟨x, hx⟩ := takeCause_eq_withLink (c := c) (src := src) ho
  have frame := takeCause_frame (c := c) (src := src) ho (changesCategory_opens hs _)
  have only := takeCause_only s c src
  intro t
  rcases hc : c.category with _ | _ | _ | _
  · exact absurd hc c.category_ne_noStop
  · rcases hs with ready | moving
    · have intake := intake_controlled_ready (src := src) hc ready hr
      refine ⟨?_, ?_, frame, only, fun _ => ?_, (nomatch ·), (nomatch ·)⟩
      all_goals rw [show t = _ from hx, intake]
      · rfl
      · exact later
      · exact ⟨rfl, assist, rfl, rfl, fun _ => rfl, fun h => absurd ready h⟩
    · have intake := intake_controlled_inFlight (src := src) hc moving hr
      refine ⟨?_, ?_, frame, only, fun _ => ?_, (nomatch ·), (nomatch ·)⟩
      all_goals rw [show t = _ from hx, intake]
      · rfl
      · exact later
      · refine ⟨rfl, assist, rfl, rfl, fun h => ?_, fun _ => ⟨rfl, rfl, rfl⟩⟩
        rw [h] at moving; cases moving
  · have intake : intake c src s = dropped u :=
      recorded ▸ intake_immediate ho hc fun h => absurd h out
    obtain ⟨first', later', category', assist'⟩ := dropped_record u
    refine ⟨?_, ?_, frame, only, (nomatch ·), fun _ => ?_, (nomatch ·)⟩
    all_goals rw [show t = _ from hx, intake]
    · exact first'
    · exact later'.trans later
    · exact ⟨category', assist',
        dropped_seq u, dropped_brake u, dropped_duty u⟩
  · have intake : intake c src s = assisted u :=
      recorded ▸ intake_assist ho hc fun h => absurd h out
    obtain ⟨first', later', category', assist'⟩ := assisted_record u
    refine ⟨?_, ?_, frame, only, (nomatch ·), (nomatch ·), fun _ => ?_⟩
    all_goals rw [show t = _ from hx, intake]
    · exact first'
    · exact later'.trans later
    · exact ⟨category', assist',
        assisted_seq u, assisted_brake u, assisted_target u, assisted_creep u⟩

/-- A cause taken in STOPPING: a controlled one joins the later-fault set, another changes the stop (R145). -/
theorem takeCause_stopping (hs : s.seq.state = .stopping) (hf : s.stop.first.isSome = true) :
    let t := takeCause c src s
    let later := addLater s.stop.later c
    let frame := (c.sent = true → t.link = s.stopRequested c) ∧ (¬ c.sent = true → t.link = s.link)
    t.stop.first = s.stop.first ∧ t.stop.later = later ∧
      (c.category = .controlled → t = s.withStop { s.stop with later := later }) ∧
      (c.category = .immediate → frame ∧ t.stop.category = .immediate ∧ t.stop.assist = false ∧
        t.seq = { s.seq with state := .stopped } ∧ s.brakeCommandedSet false t ∧ t.loop.duty = 512) ∧
      (c.category = .assist → frame ∧ t.stop.category = .assist ∧ t.stop.assist = true ∧
        t.seq = { s.seq with state := .stopped } ∧ s.brakeCommandedSet true t ∧ s.heldByDrive t) := by
  have ho : s.seq.state.operating = true := by rw [hs]; rfl
  have out : ¬ s.seq.state = .stopped := fun h => by cases hs.symm.trans h
  obtain ⟨first, hfirst⟩ := Option.isSome_iff_exists.mp hf
  let u : State := s.withStop { s.stop with later := addLater s.stop.later c }
  have recorded : s.withStop (s.stop.record c src) = u := by rw [record_adds hfirst]
  obtain ⟨x, hx⟩ := takeCause_eq_withLink (c := c) (src := src) ho
  have frame (h : c.category = .immediate ∨ c.category = .assist) :=
    takeCause_frame (c := c) (src := src) ho (changesCategory_stopping hs h)
  intro t
  rcases hc : c.category with _ | _ | _ | _
  · exact absurd hc c.category_ne_noStop
  · have taken : t = u := (takeCause_noFrame ho (changesCategory_inForce (.inl ⟨hs, hc⟩))).trans
      (intake_controlled_held hc (.inl hs) hf)
    exact ⟨by rw [taken]; rfl, by rw [taken]; rfl, fun _ => taken, (nomatch ·), (nomatch ·)⟩
  · have intake : intake c src s = dropped u := recorded ▸ intake_immediate ho hc fun h => absurd h out
    obtain ⟨first', later', category', assist'⟩ := dropped_record u
    refine ⟨?_, ?_, (nomatch ·), fun _ => ⟨frame (.inl hc), ?_⟩, (nomatch ·)⟩
    all_goals rw [show t = _ from hx, intake]
    · exact first'
    · exact later'
    · exact ⟨category', assist',
        dropped_seq u, dropped_brake u, (dropped_duty u).1⟩
  · have intake : intake c src s = assisted u := recorded ▸ intake_assist ho hc fun h => absurd h out
    obtain ⟨first', later', category', assist'⟩ := assisted_record u
    refine ⟨?_, ?_, (nomatch ·), (nomatch ·), fun _ => ⟨frame (.inr hc), ?_⟩⟩
    all_goals rw [show t = _ from hx, intake]
    · exact first'
    · exact later'
    · exact ⟨category', assist',
        assisted_seq u, assisted_brake u, assisted_target u⟩

/-- A cause taken in STOPPED, by its category and the one in force (Table 9-4). -/
theorem takeCause_stopped (hs : s.seq.state = .stopped) (hr : s.recordFits) (hfit : s.outputsFit) :
    let t := takeCause c src s
    let later := addLater s.stop.later c
    let frame := (c.sent = true → t.link = s.stopRequested c) ∧ (¬ c.sent = true → t.link = s.link)
    t.stop.first = s.stop.first ∧ t.stop.later = later ∧ t.seq = s.seq ∧
      (c.category = .controlled ∨ s.stop.category = .immediate ∨
          c.category = .assist ∧ s.stop.category = .assist →
        t = s.withStop { s.stop with later := later }) ∧
      (c.category = .immediate → s.stop.category = .controlled →
        frame ∧ t.loop = s.loop ∧ t.stop = { s.stop with later := later, category := .immediate }) ∧
      (c.category = .assist → s.stop.category = .controlled →
        frame ∧ t.loop.drive = true ∧ t.loop.brake = .set ∧ s.heldByDrive t ∧
          t.loop.supervision = s.loop.supervision ∧
          t.stop = { s.stop with later := later, category := .assist, assist := true }) ∧
      (c.category = .immediate → s.stop.category = .assist →
        frame ∧ t.loop = { s.loop with drive := false, duty := 512, speed := 0 } ∧
          t.stop = { s.stop with later := later, category := .immediate, assist := false }) := by
  have ho : s.seq.state.operating = true := by rw [hs]; rfl
  obtain ⟨⟨hf, some, assistIff⟩, -⟩ := (recordFits_stopped hs).mp hr
  obtain ⟨brake, drive⟩ := hfit.stopped hs
  obtain ⟨first, hfirst⟩ := Option.isSome_iff_exists.mp hf
  let u : State := s.withStop { s.stop with later := addLater s.stop.later c }
  have recorded : s.withStop (s.stop.record c src) = u := by rw [record_adds hfirst]
  have state : { u.seq with state := .stopped } = s.seq := by rw [← hs]; rfl
  obtain ⟨x, hx⟩ := takeCause_eq_withLink (c := c) (src := src) ho
  have frame (h : s.stop.category = .controlled ∧ (c.category = .immediate ∨ c.category = .assist) ∨
      s.stop.category = .assist ∧ c.category = .immediate) :=
    takeCause_frame (c := c) (src := src) ho (changesCategory_stopped hs h)
  have kept (h : c.category = .controlled ∨ s.stop.category = .immediate ∨
      c.category = .assist ∧ s.stop.category = .assist) : takeCause c src s = u :=
    (takeCause_noFrame ho (changesCategory_inForce (.inr ⟨hs, h⟩))).trans
      ((intake_inForce hs h).trans recorded)
  have drops (hc : c.category = .immediate) (h : s.stop.category = .controlled ∨ s.stop.category = .assist) :
      takeCause c src s = (dropped u).withLink x := hx.trans (by rw [← recorded, intake_immediate ho hc fun _ => h])
  have holds (hc : c.category = .assist) (h : s.stop.category = .controlled) :
      takeCause c src s = (assisted u).withLink x := hx.trans (by rw [← recorded, intake_assist ho hc fun _ => h])
  have noAssist (h : s.stop.category = .controlled) : s.stop.assist = false :=
    Bool.eq_false_iff.mpr fun ha => by cases h.symm.trans (assistIff.mp ha)
  have made : takeCause c src s = u ∨ takeCause c src s = (dropped u).withLink x ∨
      takeCause c src s = (assisted u).withLink x := by
    rcases hc : c.category with _ | _ | _ | _
    · exact absurd hc c.category_ne_noStop
    · exact .inl (kept (.inl hc))
    · rcases h : s.stop.category with _ | _ | _ | _
      · exact absurd h some
      · exact .inr (.inl (drops hc (.inl h)))
      · exact .inl (kept (.inr (.inl h)))
      · exact .inr (.inl (drops hc (.inr h)))
    · rcases h : s.stop.category with _ | _ | _ | _
      · exact absurd h some
      · exact .inr (.inr (holds hc h))
      · exact .inl (kept (.inr (.inl h)))
      · exact .inl (kept (.inr (.inr ⟨hc, h⟩)))
  obtain ⟨dropFirst, dropLater, -⟩ := dropped_record u
  obtain ⟨assistFirst, assistLater, -⟩ := assisted_record u
  intro t
  have seq : t.stop.first = s.stop.first ∧ t.stop.later = addLater s.stop.later c ∧ t.seq = s.seq := by
    rcases made with h | h | h <;> rw [show t = _ from h]
    · exact ⟨rfl, rfl, rfl⟩
    · exact ⟨dropFirst, dropLater, (dropped_seq u).trans state⟩
    · exact ⟨assistFirst, assistLater, (assisted_seq u).trans state⟩
  refine ⟨seq.1, seq.2.1, seq.2.2, kept, fun hc h => ⟨frame (.inl ⟨h, .inl hc⟩), ?_⟩,
    fun hc h => ⟨frame (.inl ⟨h, .inr hc⟩), ?_⟩, fun hc h => ⟨frame (.inr ⟨h, hc⟩), ?_⟩⟩
  · rw [show t = _ from drops hc (.inl h)]
    refine ⟨dropped_loop_of_off (drive.trans (noAssist h)) hfit.duty brake, (dropped_stop u).trans ?_⟩
    show { u.stop with category := .immediate, assist := false } = _
    rw [← noAssist h]
    rfl
  · rw [show t = _ from holds hc h]
    have loop := assisted_loop u
    rw [setCommanded_of_set (l := u.assistLoop) brake] at loop
    have supervision : (assisted u).loop.supervision = s.loop.supervision := by rw [loop]; rfl
    exact ⟨congrArg LineLoop.drive loop, (congrArg LineLoop.brake loop).trans brake, assisted_target u, supervision,
      assisted_stop u⟩
  · rw [show t = _ from drops hc (.inr h)]
    exact ⟨(dropped_loop u).trans (setCommanded_of_set brake), dropped_stop u⟩

end

/-- Settles O60: out of a stop, in STOPPING and in STOPPED, by the category of the cause. -/
theorem causesStopAsTables93And94 : Obligations.CausesStopAsTables93And94 := by
  unfold Obligations.CausesStopAsTables93And94
  intro c src s hr hfit
  simp only [← category_controlled_iff, ← category_assist_iff, ← category_immediate_iff, ← sent_iff]
  refine ⟨takeCause_idle c src, fun hs => ?_, fun hs => ?_, fun hs => takeCause_stopped hs hr hfit⟩
  · refine takeCause_opens hs ((recordFits_outOfStop ?_).mp hr).1
    rcases hs with h | h
    · rw [h]; rfl
    · cases hst : s.seq.state with
      | primed | flying | parking => rfl
      | start | ready | stopping | stopped | locked => rw [hst] at h; cases h
  · exact takeCause_stopping hs ((recordFits_stopping hs).mp hr).1.1

end Sys2Proof.Machine
end

section
/-!
SUPPORT. The start-up in the statements' words: the read, the load, the failures, the shunt span check and the end of the
listen window (chapter 10).
-/

namespace Sys2Proof.Machine

set_option Elab.async false

variable {s t : State}

/-! ### Commands in START -/

/-- Outside the operating states no attempt begins (R35). -/
theorem beginAttempt_idle (h : s.seq.state.operating = false) : beginAttempt s = s :=
  beginAttempt_none (by simp [State.mayAttempt, h])

/-- A command from outside whose work leaves the station out of operation. -/
theorem external_idle {f : State → State} (quiet : s.quiet = true) (idle : (f s).seq.state.operating = false) :
    external f s = .next (f s) := by
  rw [external_of_quiet f quiet, beginAttempt_idle idle]

theorem arrival_idle {f : State → State} (idle : (f s).seq.state.operating = false) :
    arrival f s = .next (f s) := by
  rw [arrival_eq, beginAttempt_idle idle]

/-! ### The read (R160) -/

theorem memoryReadStartWork_due (h : s.loader.progress = .wait) : memoryReadStartWork s =
    (elapse (waitClocks - s.loader.waitClk) s).withLoader { s.loader with
      progress := .read, waitClk := 25000, msel := true
      mdo := [0x03#8, 0x00#8, 0x00#8, 0x00#8], buffer := [] } := by
  have loader : (elapse (waitClocks - s.loader.waitClk) s).loader = { s.loader with waitClk := 25000 } := by
    show s.elapseLoader (25000 - s.loader.waitClk) = _
    rw [State.elapseLoader, if_pos h, waitClocks, show
      min 25000 (s.loader.waitClk + (25000 - s.loader.waitClk)) = 25000 by omega]
  rw [memoryReadStartWork, if_pos h]
  dsimp only
  rw [loader]

/-- Settles O25: the three rows of the read, each one update of the loader. -/
theorem imageReadRunsToCheck : Obligations.ImageReadRunsToCheck := by
  unfold Obligations.ImageReadRunsToCheck
  intro s quiet start
  have idle : s.seq.state.operating = false := by rw [start]; rfl
  refine ⟨fun wait => ?_, fun bytes read buffer length count => ?_, fun bytes read buffer length => ?_⟩
  · have work := memoryReadStartWork_due wait
    refine ⟨_, external_idle quiet (by rw [work]; exact idle), ?_, ?_⟩
    · rw [work]; rfl
    · rw [work]; exact withLoader_only _ _
  · have work : fixedBytesWork bytes s = s.withLoader { s.loader with buffer := bytes } :=
      (if_pos ⟨read, buffer, length⟩).trans (if_neg (Nat.not_lt.mpr count))
    refine ⟨_, external_idle quiet (by rw [work]; exact idle), ?_, ?_⟩
    · rw [work]; rfl
    · rw [work]; exact withLoader_only _ _
  · have work : imageReadWork bytes s = s.withLoader { s.loader with
        buffer := s.loader.buffer ++ bytes, msel := false, progress := .check } :=
      if_pos ⟨read, buffer, length⟩
    refine ⟨_, external_idle quiet (by rw [work]; exact idle), ?_, ?_⟩
    · rw [work]; rfl
    · rw [work]; exact withLoader_only _ _

/-! ### The load (R162, R167) -/

/-- Two bytes as a number in two's complement. -/
theorem signedField2_eq (img : List Byte) (i : Nat) : signedField2 img i =
    if field2 img i < 32768 then (field2 img i : Int) else (field2 img i : Int) - 65536 := by
  have := field2_lt img i
  rw [signedField2, BitVec.toInt_eq_toNat_cond, BitVec.toNat_ofNat, Nat.mod_eq_of_lt this]
  exact if_congr (by omega) rfl rfl

theorem getLsbD_zero (b : Byte) : b.getLsbD 0 = decide (b.toNat % 2 = 1) := Nat.testBit_zero _

theorem getLsbD_one (b : Byte) : b.getLsbD 1 = decide (b.toNat / 2 % 2 = 1) :=
  (Nat.testBit_succ _ 0).trans (Nat.testBit_zero _)

/-- Table 11-5, field by field. -/
theorem imageParams_eq (img : List Byte) : imageParams img =
    let signed (n : Nat) : Int := if n < 32768 then (n : Int) else (n : Int) - 65536
    { station := byteAt img 2, lostLimit := byteAt img 3, enableLimit := byteAt img 4
      brakeTime := byteAt img 5, slackLimit := byteAt img 6, primeLimit := field2 img 7
      stopLimit := field2 img 9, leadW := field2 img 11, rampA := field3 img 13, stopA := field3 img 16
      followTol := field2 img 19, tripTol := field2 img 21, startTol := field2 img 23
      kp := field2 img 25, shiftS := byteAt img 27, vMax := field2 img 28
      pwmInvert := decide (byteAt img 30 % 2 = 1), dirNegative := decide (byteAt img 30 / 2 % 2 = 1)
      tMax := field2 img 31, tSlack := field2 img 33, gLo := field3 img 35, gHi := field3 img 38
      m := byteAt img 41, tOffset := signed (field2 img 42), gain := field2 img 44
      shuntRef := signed (field2 img 46), shuntTol := field2 img 48, lZero := field3 img 50
      kScale := field2 img 53, creepLimit := field2 img 55, dipCode := byteAt img 57
      roster := imageRoster img } := by
  unfold imageParams
  rw [signedField2_eq, signedField2_eq, getLsbD_zero, getLsbD_one]
  rfl

theorem imagePath_entry_eq {img : List Byte} {c : Nat} (h : c < 32) : (imagePath img).entry c =
    if byteAt img (171 + 5 * c) = 0 then none
    else some { n := byteAt img (171 + 5 * c), f := byteAt img (172 + 5 * c), l0 := field3 img (173 + 5 * c) } := by
  have entry : (imagePath img).entry c = imageEntry img c := by
    simp [PathStore.entry, imagePath, Config.cues, List.getD_eq_getElem?_getD, h]
  rw [entry, imageEntry, imageCue, show 171 + 5 * c + 1 = 172 + 5 * c by omega,
    show 171 + 5 * c + 2 = 173 + 5 * c by omega]

theorem imagePath_segment {img : List Byte} {j : Nat} (h : j < field2 img 331) :
    (imagePath img).segments[j]? = some {
      t := field2 img (333 + 6 * j)
      profile := if byteAt img (335 + 6 * j) = 0 then .linear else .ease
      lb := field3 img (336 + 6 * j) } := by
  have record : (imagePath img).segments[j]? = some (imageSegment img j) := by
    simp [imagePath, imageSegmentCount, h]
  rw [record, imageSegment, imageProfileByte, Config.fixedBytes, Config.segmentBytes,
    show 333 + 6 * j + 2 = 335 + 6 * j by omega, show 333 + 6 * j + 3 = 336 + 6 * j by omega]

theorem imagePath_exclusion {img : List Byte} {i : Nat} (h : i < byteAt img 74) :
    (imagePath img).exclusions[i]? = some {
      ownCue := byteAt img (75 + 3 * i), otherGroup := byteAt img (76 + 3 * i)
      otherCue := byteAt img (77 + 3 * i) } := by
  have record : (imagePath img).exclusions[i]? = some (imageExclusion img i) := by
    simp [imagePath, imageExclusionCount, h]
  rw [record, imageExclusion, show 75 + 3 * i + 1 = 76 + 3 * i by omega, show 75 + 3 * i + 2 = 77 + 3 * i by omega]

/-- Settles O26: the load is one update, and each field of it stands at its offset. -/
theorem soundImageIsLoaded : Obligations.SoundImageIsLoaded := by
  unfold Obligations.SoundImageIsLoaded
  intro s quiet start check sound
  have work : imageCheckWork s = loadImage s.loader.buffer s := by
    rw [imageCheckWork, if_pos check, sound]
  have idle : (loadImage s.loader.buffer s).seq.state.operating = false := by
    show s.seq.state.operating = false
    rw [start]; rfl
  refine ⟨loadImage s.loader.buffer s, ?_, rfl, ?_, rfl, rfl, rfl, rfl, loadImage_only _ _⟩
  · exact (external_idle quiet (by rw [work]; exact idle)).trans (by rw [work])
  · refine ⟨fun i => ⟨rfl, rfl⟩, imageParams_eq _, ?_, fun n hn => ?_, fun c => imagePath_entry_eq, ?_,
      fun j => imagePath_segment, ?_, fun i => imagePath_exclusion⟩
    · show (imageRoster s.loader.buffer).length = 16
      simp [imageRoster, Config.stations]
    · exact congrArg BitVec.toNat (imageRoster_getD hn)
    · show (imagePath s.loader.buffer).segments.length = _
      simp [imagePath, imageSegmentCount]
    · show (imagePath s.loader.buffer).exclusions.length = _
      simp [imagePath, imageExclusionCount]

/-! ### The failures (R156, R161, R163) -/

/-- The loader's entry to LOCKED from START, over a loader whose select and shunt are off. -/
theorem lockFromLoader_locked (empty : s.recordEmpty) {x : ImageLoader} (msel : x.msel = false)
    (shunt : x.shunt = false) (c : FaultCode) (src : Nat) (cause : LockCause) :
    s.lockedFromStart c src cause (lockFromLoader c src cause (s.withLoader x)) := by
  obtain ⟨first, -⟩ := empty
  have only := (withLoader_only s x).next (lockFromLoader_only (s.withLoader x) c src cause)
    (l := [.link, .clock, .seq, .loop, .stop, .loader])
  have recorded : s.stop.record c src = { s.stop with first := some (c, src) } := record_opens first c src
  have first' : (s.stop.record c src).first = some (c, src) := by rw [recorded]
  have later : (s.stop.record c src).later = s.stop.later := by rw [recorded]
  exact ⟨rfl, first', later, rfl, rfl, rfl, rfl, rfl, rfl, rfl, rfl, rfl, rfl, rfl, rfl, rfl, rfl, rfl, msel, shunt, only⟩

/-- Settles O27: the two failures of the image, by the loader's entry to LOCKED. -/
theorem failedImageLocks : Obligations.FailedImageLocks := by
  unfold Obligations.FailedImageLocks
  intro s quiet start empty shunt
  refine ⟨fun bytes read buffer length count => ?_, fun check msel unsound => ?_⟩
  · have work : fixedBytesWork bytes s =
        failImage (s.withLoader { s.loader with buffer := bytes, msel := false }) :=
      (if_pos ⟨read, buffer, length⟩).trans (if_pos count)
    refine ⟨_, external_idle quiet (by rw [work]; rfl), ?_⟩
    rw [work]
    exact lockFromLoader_locked empty (x := { s.loader with buffer := bytes, msel := false }) rfl shunt _ _ _
  · obtain ⟨n, hn⟩ := Option.ne_none_iff_exists'.mp unsound
    have work : imageCheckWork s = failImage s := by rw [imageCheckWork, if_pos check, hn]
    refine ⟨_, external_idle quiet (by rw [work]; rfl), ?_⟩
    rw [work]
    exact lockFromLoader_locked empty (x := s.loader) msel shunt _ _ _

/-! ### The shunt span check (R136, R163) -/

theorem shuntPasses_iff : s.shuntPasses = true ↔
    (s.loader.shuntSum / 32 + s.params.tOffset - s.params.shuntRef).natAbs ≤ s.params.shuntTol := by
  rw [State.shuntPasses, Bool.and_eq_true, decide_eq_true_iff, decide_eq_true_iff, State.shuntResult]
  omega

/-- Settles O28: the three phase ends, the middle one by the check's result. -/
theorem shuntSpanCheckRuns : Obligations.ShuntSpanCheckRuns := by
  unfold Obligations.ShuntSpanCheckRuns
  intro s start progress
  have idle : s.seq.state.operating = false := by rw [start]; rfl
  have due {p : ShuntPhase} (phase : s.loader.shuntPhase = p) (count : p.samples ≤ s.loader.shuntCount) :
      s.shuntPhaseOver p = true := shuntPhaseOver_iff.mpr ⟨progress, phase, count⟩
  refine ⟨fun phase count => ?_, fun phase count => ?_, fun phase count => ?_⟩
  · have work : settleInEndWork s =
        s.withLoader { s.loader with shuntPhase := .measure, shuntCount := 0, shuntSum := 0 } :=
      if_pos (due phase count)
    refine ⟨_, arrival_idle (by rw [work]; exact idle), ?_, ?_⟩
    · rw [work]; rfl
    · rw [work]; exact withLoader_only _ _
  · let x : ImageLoader := { s.loader with shunt := false, shuntPhase := .settleOut, shuntCount := 0 }
    have work : measureEndWork s = if s.shuntPasses then s.withLoader x
        else lockFromLoader .selfCheck s.own .selfCheck (s.withLoader x) := if_pos (due phase count)
    by_cases passes : s.shuntPasses = true
    · rw [if_pos passes] at work
      refine ⟨_, arrival_idle (by rw [work]; exact idle), ?_⟩
      rw [if_pos (shuntPasses_iff.mp passes), work]
      exact ⟨rfl, withLoader_only _ _⟩
    · rw [if_neg passes] at work
      refine ⟨_, arrival_idle (by rw [work]; rfl), ?_⟩
      rw [if_neg (mt shuntPasses_iff.mpr passes), work]
      exact fun empty msel => lockFromLoader_locked empty (x := x) msel rfl _ _ _
  · have work : settleOutEndWork s = (s.withLoader { s.loader with progress := .listen, listenCounter := 0 }).withClock
        { s.clock with running := true, timer := 3000 } := if_pos (due phase count)
    refine ⟨_, arrival_idle (by rw [work]; exact idle), ?_, ?_, ?_⟩
    · rw [work]; rfl
    · rw [work]; rfl
    · rw [work]; exact (withLoader_only _ _).next (withClock_only _ _)

/-! ### The end of the listen window (Table 10-2) -/

/-- The station at the end of the window, before the causes: READY with the loader's work over. -/
def State.windowReady (s : State) : State := toState .ready (s.withLoader { s.loader with progress := .done })

theorem listenWindowEndWork_due (h : s.windowOver = true) :
    listenWindowEndWork s = windowCauses (windowBrake s.windowReady) := if_pos h

/-- The window's end with the brake shown set. -/
def State.windowSet (s : State) : State :=
  armCreep (s.windowReady.withLoop { s.loop with supervision := .matched })

/-- The window's end with the brake not shown set. -/
def State.windowReleased (s : State) : State := s.windowReady.withLoop { s.loop with supervision := .failed }

theorem windowBrake_set (h : s.loop.brakeSample = .set) : windowBrake s.windowReady = s.windowSet := by
  unfold windowBrake
  rw [show s.windowReady.loop.brakeSample = .set from h]; rfl

theorem windowBrake_released (h : s.loop.brakeSample = .released) :
    windowBrake s.windowReady = s.windowReleased := by
  unfold windowBrake
  rw [show s.windowReady.loop.brakeSample = .released from h]; rfl

theorem windowCauses_good (good : s.len.lastResult = .good) : windowCauses s =
    if s.loop.brakeSample = .released then intake .brakeNotSet s.own s else s := by
  unfold windowCauses
  dsimp only
  rw [if_neg (show ¬ s.len.lastResult = .failed by rw [good]; decide)]

theorem windowCauses_failed (failed : s.len.lastResult = .failed) : windowCauses s =
    if s.loop.brakeSample = .released then intake .brakeNotSet s.own (intake .encoder s.own s)
    else intake .encoder s.own s := by
  unfold windowCauses
  dsimp only
  rw [if_pos failed]

theorem driveOff_duty {l : LineLoop} (h : l.drive = false) :
    { l with drive := false, duty := 512, speed := 0 } = { l with duty := 512, speed := 0 } := by rw [← h]

/-- Settles O29: the four rows of Table 10-2, by the last read and the last brake feedback. -/
theorem listenWindowEndsAsTable102 : Obligations.ListenWindowEndsAsTable102 := by
  unfold Obligations.ListenWindowEndsAsTable102
  intro s start listen count empty drive brake next
  have due : s.windowOver = true := windowOver_iff.mpr ⟨start, listen, count⟩
  have only := listenWindowEndWork_only s
  obtain ⟨-, loader, -⟩ := listenWindowEndWork_held due
  obtain ⟨first, later, category, assist⟩ := id empty
  have work := listenWindowEndWork_due due
  refine ⟨listenWindowEndWork s, ?_, loader, only, fun good sample => ?_, fun good sample => ?_,
    fun failed sample => ?_, fun failed sample => ?_⟩
  · exact (arrival_eq _ _).trans (by rw [beginAttempt_empty (by rw [only.link]; exact next)])
  · have done : listenWindowEndWork s = s.windowSet := by
      rw [work, windowBrake_set sample, windowCauses_good (s := s.windowSet) good]
      exact if_neg (by rw [show s.windowSet.loop.brakeSample = .set from sample]; decide)
    rw [done]
    exact ⟨rfl, rfl, rfl, rfl, rfl⟩
  · have ready : s.windowReleased.seq.state = .ready := rfl
    let u : State := s.windowReleased.withStop { s.stop with first := some (.brakeNotSet, s.own) }
    have done : listenWindowEndWork s = assisted u := by
      rw [work, windowBrake_released sample, windowCauses_good (s := s.windowReleased) good]
      refine (if_pos sample).trans ((intake_assist rfl rfl fun h => nomatch ready.symm.trans h).trans ?_)
      rw [show s.windowReleased.stop = s.stop from rfl, record_opens first]; rfl
    rw [done, assisted_standing (s := u) brake]
    exact ⟨rfl, rfl, rfl, rfl, rfl, brake, ⟨rfl, rfl, rfl⟩, rfl⟩
  · have ready : s.windowSet.seq.state = .ready := rfl
    let u : State := s.windowSet.withStop { s.stop with first := some (.encoder, s.own) }
    have done : listenWindowEndWork s = dropped u := by
      rw [work, windowBrake_set sample, windowCauses_failed (s := s.windowSet) failed]
      refine (if_neg (by rw [show s.windowSet.loop.brakeSample = .set from sample]; decide)).trans
        ((intake_immediate rfl rfl fun h => nomatch ready.symm.trans h).trans ?_)
      rw [show s.windowSet.stop = s.stop from rfl, record_opens first]; rfl
    rw [done, dropped_standing (s := u) brake]
    refine ⟨rfl, rfl, enterCategory_immediate assist, ?_, rfl⟩
    exact driveOff_duty (l := { s.loop with supervision := .matched }) drive
  · have ready : s.windowReleased.seq.state = .ready := rfl
    let u : State := s.windowReleased.withStop { s.stop with first := some (.encoder, s.own) }
    have encoder : intake .encoder s.windowReleased.own s.windowReleased = driveOff (stoppedIn .immediate u) := by
      refine (intake_immediate rfl rfl fun h => nomatch ready.symm.trans h).trans ?_
      rw [show s.windowReleased.stop = s.stop from rfl, record_opens first]
      exact dropped_standing (s := u) brake
    have stop : (driveOff (stoppedIn .immediate u)).stop =
        { s.stop with first := some (.encoder, s.own), category := .immediate } :=
      enterCategory_immediate assist
    have done : listenWindowEndWork s = (driveOff (stoppedIn .immediate u)).withStop { s.stop with
        first := some (.encoder, s.own), later := addLater 0#24 .brakeNotSet, category := .immediate } := by
      rw [work, windowBrake_released sample, windowCauses_failed (s := s.windowReleased) failed, encoder]
      have recorded := record_adds (x := { s.stop with first := some (.encoder, s.own), category := .immediate })
        rfl .brakeNotSet s.own
      rw [later] at recorded
      refine (if_pos sample).trans ((intake_inForce rfl (.inr (.inl (by rw [stop])))).trans ?_)
      rw [stop]
      exact congrArg _ recorded
    have creep : (driveOff (stoppedIn .immediate u)).creep = s.creep := by
      unfold driveOff stoppedIn; rfl
    rw [done]
    refine ⟨rfl, rfl, rfl, ?_, creep⟩
    exact driveOff_duty (l := { s.loop with supervision := .failed }) drive

end Sys2Proof.Machine
end

section
/-!
SUPPORT. The due events, the chip clock's own events and the events of the local inputs (chapters 3, 4, 7 and 9).
-/

namespace Sys2Proof.Machine

set_option Elab.async false

variable {s t : State}

theorem beginAttempt_eq_withLink (s : State) : ∃ x, beginAttempt s = s.withLink x := by
  unfold beginAttempt
  split
  · split
    · exact ⟨_, rfl⟩
    · exact ⟨s.link, rfl⟩
  · exact ⟨s.link, rfl⟩

/-! ### The events of the part's own counts -/

theorem memberStale_iff : s.memberStale = true ↔ ∃ r ∈ s.peers.rows, r.station ≠ s.own ∧ r.group = s.ownGroup ∧
    r.report.isSome = true ∧ 3 ≤ r.age ∧ r.age < s.params.lostLimit := by
  rw [State.memberStale, List.any_eq_true]
  constructor
  · rintro ⟨r, member, stale⟩
    obtain ⟨row, peer, group⟩ := mem_members.mp member
    rw [beq_iff_eq, presence_peer peer, peerPresence_stale_iff] at stale
    obtain ⟨p, report, lo, hi⟩ := stale
    exact ⟨r, row, peer, group, by rw [report]; rfl, lo, hi⟩
  · rintro ⟨r, row, peer, group, report, lo, hi⟩
    obtain ⟨p, report⟩ := Option.isSome_iff_exists.mp report
    refine ⟨r, mem_members.mpr ⟨row, peer, group⟩, ?_⟩
    rw [beq_iff_eq, presence_peer peer, peerPresence_stale_iff]
    exact ⟨p, report, lo, hi⟩

theorem brakeFault_eq (c : BrakeCommand) :
    brakeFault c = if c = .release then .brakeNotReleased else .brakeNotSet := by cases c <;> rfl

/-- Settles O38, row by row. -/
theorem dueEventsTakeEffect : Obligations.DueEventsTakeEffect := by
  unfold Obligations.DueEventsTakeEffect
  intro s
  refine ⟨?_, ?_, fun stopping limit => ?_, fun waiting limit => ?_, fun due => ?_⟩
  · refine ⟨_, rfl, ?_, ?_, (recomputePeerStale_only s).next (beginAttempt_only _)⟩
    all_goals rw [(beginAttempt_only _).gov]
    · exact memberStale_iff
    · rfl
  · refine ⟨_, rfl, ?_, ?_, (recomputeEnable_only s).next (beginAttempt_only _)⟩
    all_goals rw [(beginAttempt_only _).gov]
    · exact decide_eq_true_iff
    · rfl
  · have work : stopOvertimeWork s = takeCause .stopOvertime s.own s := if_pos ⟨stopping, limit⟩
    rw [← work]; rfl
  · have work : brakeExpiryWork s = failBrake s := if_pos ⟨waiting, limit⟩
    rw [← brakeFault_eq]
    exact (arrival_eq _ _).trans (by rw [work]; rfl)
  · rw [← slackTimeoutWork_due due]; rfl

/-- The prime timeout's park, from a released brake. -/
theorem primeTimeoutWork_due (primed : s.seq.state = .primed) (limit : s.params.primeLimit ≤ s.seq.primeTimer)
    (brake : s.loop.brake ≠ .set) : primeTimeoutWork s =
      if s.loop.brakeSample = .set then parked (armCreep ((refuse .primeTimeout s).parkingEntry.setOn .matched))
      else (refuse .primeTimeout s).parkingEntry.setOn .waiting :=
  (if_pos ⟨primed, limit⟩).trans (enterParking_released (s := refuse .primeTimeout s) brake)

/-- Settles O39, by the last brake feedback. -/
theorem primeTimeoutParks : Obligations.PrimeTimeoutParks := by
  unfold Obligations.PrimeTimeoutParks
  intro s primed limit outputs
  have drive : s.loop.drive = true := outputs.drive.trans (by unfold State.driveWanted; rw [primed])
  have brake : s.loop.brake ≠ .set := by rw [outputs.released (.inl primed)]; decide
  have work := primeTimeoutWork_due primed limit brake
  obtain ⟨x, hx⟩ := beginAttempt_eq_withLink (primeTimeoutWork s)
  have only := (primeTimeoutWork_only s).next (beginAttempt_only _) (l := [.link, .seq, .gov, .loop, .creep])
  refine ⟨_, rfl, ?_⟩
  cases sample : s.loop.brakeSample with
  | set =>
    rw [if_pos sample] at work
    rw [hx, work] at only ⊢
    exact ⟨rfl, rfl, rfl, rfl, rfl, rfl, fun _ => ⟨rfl, rfl, rfl, rfl, rfl⟩, (nomatch ·), only⟩
  | released =>
    rw [if_neg (by rw [sample]; decide)] at work
    rw [hx, work] at only ⊢
    exact ⟨rfl, rfl, rfl, rfl, rfl, rfl, (nomatch ·), fun _ => ⟨rfl, drive, rfl, rfl, rfl⟩, only⟩

/-! ### Lost members (R68) -/

theorem takeCause_controlled_stopping {c : FaultCode} (src : Nat) (hc : c.category = .controlled)
    (hs : s.seq.state = .stopping) (hf : s.stop.first.isSome = true) :
    takeCause c src s = s.withStop { s.stop with later := addLater s.stop.later c } :=
  (takeCause_stopping hs hf).2.2.1 hc

/-- Further lost members join the later-fault set, where LOST_MEMBER is one bit. -/
theorem raiseAll_lost (ns : List Nat) (hs : s.seq.state = .stopping) (hf : s.stop.first.isSome = true)
    (later : s.stop.later = 0#24 ∨ s.stop.later = 1#24) :
    ns.foldl (fun t n => takeCause .lostMember n t) s =
      s.withStop { s.stop with later := if ns = [] then s.stop.later else 1#24 } := by
  induction ns generalizing s with
  | nil => rfl
  | cons n ns ih =>
    have bit : addLater s.stop.later .lostMember = 1#24 := by
      rcases later with h | h <;> rw [h] <;> rfl
    rw [List.foldl_cons, takeCause_controlled_stopping n rfl hs hf, bit,
      ih (s := s.withStop { s.stop with later := 1#24 }) hs hf (.inr rfl), if_neg (List.cons_ne_nil n ns)]
    exact congrArg (fun l => s.withStop { s.stop with later := l }) (ite_self _)

/-- A sent controlled cause out of a flight, as one update. -/
theorem takeCause_controlled_inFlight {c : FaultCode} (src : Nat) (hc : c.category = .controlled)
    (sent : c.sent = true) (hs : s.seq.state.inFlight = true) (hr : s.recordEmpty) :
    takeCause c src s = ((s.withSeq { s.seq with state := .stopping }).withStop { s.stop with
      first := some (c, src), category := .controlled, phase := .ramping, stopTimer := 0 }).withLink
        (s.stopRequested c) := by
  have ho : s.seq.state.operating = true := by
    cases hst : s.seq.state with
    | primed | flying | parking => rfl
    | start | ready | stopping | stopped | locked => rw [hst] at hs; cases hs
  rw [takeCause_sent src ho sent, if_pos (changesCategory_opens (.inr hs) _), intake_controlled_inFlight hc hs hr]
  rfl

/-- Settles O40: the first member opens the record, the others join it. -/
theorem lostMembersStopTheFlight : Obligations.LostMembersStopTheFlight := by
  unfold Obligations.LostMembersStopTheFlight
  intro n others s due flight empty
  obtain ⟨-, later, -⟩ := id empty
  let u : State := s.withPeers { s.peers with lostDue := [] }
  let v : State := ((u.withSeq { s.seq with state := .stopping }).withStop { s.stop with
    first := some (.lostMember, n), category := .controlled, phase := .ramping, stopTimer := 0 }).withLink
      (s.stopRequested .lostMember)
  have first : takeCause .lostMember n u = v :=
    takeCause_controlled_inFlight (s := u) n rfl rfl flight empty
  have work : lostMemberWork s = v.withStop { v.stop with later := if others = [] then 0#24 else 1#24 } := by
    rw [lostMemberWork, due, List.foldl_cons, first, raiseAll_lost (s := v) others rfl rfl (.inl later)]
    rw [show v.stop.later = 0#24 from later]
  obtain ⟨x, hx⟩ := beginAttempt_eq_withLink (lostMemberWork s)
  refine ⟨beginAttempt (lostMemberWork s), rfl, ?_, ?_, ?_, fun busy => ?_, ?_⟩
  · rw [hx, work]; rfl
  · rw [hx, work]; rfl
  · rw [hx, work]; rfl
  · rw [work, beginAttempt_busy (by exact busy)]; rfl
  · rw [hx, work]
    exact fun b hb => by
      cases b with
      | link | peers | seq | stop => exact absurd (by decide) hb
      | _ => rfl

/-! ### The chip clock's own events (R110, R158) -/

theorem elapse_pwm_boundary (h : s.loop.pwmPhase < 1024) :
    (elapse (1024 - s.loop.pwmPhase) s).loop = { s.loop with pwmPhase := 0, pwmDuty := s.loop.duty } := by
  show s.loop.elapsePwm (1024 - s.loop.pwmPhase) = _
  have boundary : s.loop.pwmPhase + (1024 - s.loop.pwmPhase) = 1024 := by omega
  rw [LineLoop.elapsePwm, pwmPeriod, boundary, if_pos le_rfl, Nat.mod_self]

theorem blinkRunning_unlocked (h : s.seq.state ≠ .locked) : s.blinkRunning = none := if_neg h

/-- The work of FAULT_LAMP_BLINK. -/
def lampWork (s : State) : State :=
  match s.blinkRunning with
  | some h => elapse (h - s.stop.blinkClk) s
  | none => s

theorem execFaultLampBlink_still (quiet : s.quiet = true) (still : s.blinkRunning = none) :
    exec .faultLampBlink s = .next (beginAttempt s) :=
  (external_of_quiet lampWork quiet).trans (by rw [lampWork, still])

/-- At the end of its half the lamp toggles. -/
theorem elapse_lamp_toggles {half : Nat} (running : s.blinkRunning = some half) (h : s.stop.blinkClk < half) :
    (elapse (half - s.stop.blinkClk) s).stop.blinkOn = !s.stop.blinkOn ∧
      (elapse (half - s.stop.blinkClk) s).stop.blinkClk = 0 := by
  obtain ⟨on, clk⟩ := elapse_lamp (half - s.stop.blinkClk) running
  rw [show s.stop.blinkClk + (half - s.stop.blinkClk) = half by omega] at on clk
  rw [Nat.div_self (Nat.zero_lt_of_lt h)] at on
  refine ⟨?_, clk.trans (Nat.mod_self _)⟩
  exact Bool.eq_not_of_ne fun same => absurd (on.mp same) (by decide)

theorem faultOut_unlocked (h : s.seq.state ≠ .locked) : s.faultOut = true ↔
    s.seq.state = .start ∨ s.seq.state = .stopping ∨ s.seq.state = .stopped := by
  unfold State.faultOut
  cases hs : s.seq.state with
  | locked => exact absurd hs h
  | start | ready | primed | flying | parking | stopping | stopped => simp

theorem faultOut_locked (h : s.seq.state = .locked) :
    s.faultOut = ((blinkHalf s.stop.lockCause).isNone || s.stop.blinkOn) := by
  unfold State.faultOut; rw [h]

theorem blinkHalf_iff {c : LockCause} {half : Nat} (h : (c = .selfCheck ∧ half = 12500000) ∨
    (c = .duplicateStation ∧ half = 3125000)) : blinkHalf c = some half := by
  rcases h with ⟨rfl, rfl⟩ | ⟨rfl, rfl⟩ <;> rfl

theorem elapse_lockCause (n : Nat) (s : State) : (elapse n s).stop.lockCause = s.stop.lockCause := by
  obtain ⟨dip, on, clk, hstop⟩ := elapse_stop n s
  rw [hstop]

/-- Settles O41: the PWM boundary and the end of the lamp's half. -/
theorem chipClockEvents : Obligations.ChipClockEvents := by
  unfold Obligations.ChipClockEvents
  intro s quiet
  refine ⟨fun within => ?_, fun locked => ⟨fun half blinks within => ?_, fun image => ?_⟩, fun unlocked => ?_⟩
  · have boundary := elapse_pwm_boundary within
    refine ⟨_, external_of_quiet (fun u => elapse (pwmPeriod - u.loop.pwmPhase) u) quiet, ?_, ?_, beginAttempt_only _⟩
    · rw [(beginAttempt_only _).loop]; exact boundary
    · rw [State.spdHighClocks, (beginAttempt_only _).loop, (beginAttempt_only _).params, pwmPeriod, boundary]
      rfl
  · have running : s.blinkRunning = some half := (if_pos locked).trans (blinkHalf_iff blinks)
    obtain ⟨on, clk⟩ := elapse_lamp_toggles running within
    have idle : (elapse (half - s.stop.blinkClk) s).seq.state.operating = false := by
      show s.seq.state.operating = false
      rw [locked]; rfl
    refine ⟨elapse (half - s.stop.blinkClk) s, ?_, on, clk, ?_, .refl⟩
    · refine (external_of_quiet lampWork quiet).trans ?_
      rw [lampWork, running]
      exact congrArg _ (beginAttempt_idle idle)
    · rw [faultOut_locked (by exact locked), faultOut_locked locked, elapse_lockCause, on, blinkHalf_iff blinks]
      rfl
  · have still : s.blinkRunning = none := (if_pos locked).trans (by rw [image]; rfl)
    refine ⟨?_, ?_⟩
    · rw [execFaultLampBlink_still quiet still, beginAttempt_idle (by rw [locked]; rfl)]
    · rw [faultOut_locked locked, image]; rfl
  · exact ⟨_, execFaultLampBlink_still quiet (blinkRunning_unlocked unlocked), beginAttempt_only _,
      faultOut_unlocked unlocked⟩

/-! ### The events of LSTOP and DIP (R149, R150) -/

/-- The work of DIP_ACTIVE. -/
def dipActiveWork (s : State) : State :=
  if s.dipLevel then s else (s.withStop { s.stop with dipTimer := 0 }).withDip true

theorem withDip_only (s : State) (level : Bool) : s.changesOnly [.dipLevel] (s.withDip level) := fun b hb => by
  cases b with
  | dipLevel => exact absurd (by decide) hb
  | _ => rfl

/-- Settles O33: each event is one update of the Stop Controller, and DIP's of the level at its pin. -/
theorem localInputEvents : Obligations.LocalInputEvents := by
  unfold Obligations.LocalInputEvents
  intro s quiet
  refine ⟨?_, fun inactive => ?_, fun active => ?_, ?_⟩
  · refine ⟨_, external_of_quiet (fun u => u.withStop { u.stop with localLatch := true }) quiet, ?_,
      (withStop_only s _).next (beginAttempt_only _)⟩
    rw [(beginAttempt_only _).stop]; rfl
  · let u : State := (s.withStop { s.stop with dipTimer := 0 }).withDip true
    have only : s.changesOnly [.stop, .dipLevel] u := (withStop_only s _).next (withDip_only _ _)
    refine ⟨beginAttempt u, (external_of_quiet dipActiveWork quiet).trans ?_, ?_, ?_, only.next (beginAttempt_only _)⟩
    · rw [dipActiveWork, if_neg (by rw [inactive]; decide)]
    · rw [(beginAttempt_only _).dipLevel]; rfl
    · rw [(beginAttempt_only _).stop]; rfl
  · refine ⟨beginAttempt s, (external_of_quiet dipActiveWork quiet).trans ?_, beginAttempt_only _⟩
    rw [dipActiveWork, if_pos active]
  · let u : State := (s.withStop { s.stop with dipTimer := 0 }).withDip false
    have only : s.changesOnly [.stop, .dipLevel] u := (withStop_only s _).next (withDip_only _ _)
    refine ⟨beginAttempt u,
      external_of_quiet (fun v => (v.withStop { v.stop with dipTimer := 0 }).withDip false) quiet, ?_, ?_,
      only.next (beginAttempt_only _)⟩
    · rw [(beginAttempt_only _).dipLevel]; rfl
    · rw [(beginAttempt_only _).stop]; rfl

end Sys2Proof.Machine
end

section
/-!
SUPPORT. The strobe in the statements' words: its samples, the local inputs, and the brake supervision (chapters 7 to 9).
-/

namespace Sys2Proof.Machine

set_option Elab.async false

variable {s t : State}

/-! ### What the taking of a cause keeps of the samples -/

/-- The Stop Controller's own samples and timer, which no cause touches. -/
def StopController.samples (x : StopController) : Bool × Bool × Bool × Bool × Nat :=
  (x.localLatch, x.lstopSample, x.dipSample, x.dfltSample, x.dipTimer)

theorem record_samples (x : StopController) (c : FaultCode) (src : Nat) : (x.record c src).samples = x.samples := by
  unfold StopController.record; split <;> rfl

theorem setCommanded_brakeSample (l : LineLoop) : l.setCommanded.brakeSample = l.brakeSample := by
  unfold LineLoop.setCommanded; split <;> rfl

theorem StopMade.samples {cat : Category} (h : StopMade s cat t) :
    t.stop.samples = s.stop.samples ∧ t.loop.brakeSample = s.loop.brakeSample := by
  cases h with
  | inForce | brakeStands | ramps => exact ⟨rfl, rfl⟩
  | drops =>
    show (dropped s).stop.samples = _ ∧ (dropped s).loop.brakeSample = _
    rw [dropped_stop, dropped_loop]
    exact ⟨rfl, setCommanded_brakeSample _⟩
  | holds =>
    show (assisted s).stop.samples = _ ∧ (assisted s).loop.brakeSample = _
    rw [assisted_stop, assisted_loop]
    exact ⟨rfl, setCommanded_brakeSample _⟩

theorem takeCause_samples (c : FaultCode) (src : Nat) (s : State) :
    (takeCause c src s).stop.samples = s.stop.samples ∧
      (takeCause c src s).loop.brakeSample = s.loop.brakeSample :=
  takeCause_induction (P := fun t => t.stop.samples = s.stop.samples ∧ t.loop.brakeSample = s.loop.brakeSample)
    (fun _ h => h) c src (fun _ => ⟨rfl, rfl⟩)
    fun _ made => ⟨made.samples.1.trans (record_samples _ _ _), made.samples.2⟩

theorem raiseIf_samples (cond : Bool) (c : FaultCode) (s : State) :
    (raiseIf cond c s).stop.samples = s.stop.samples ∧ (raiseIf cond c s).loop.brakeSample = s.loop.brakeSample := by
  unfold raiseIf
  split
  · exact takeCause_samples _ _ _
  · exact ⟨rfl, rfl⟩

theorem brakeSetConfirmed_brakeSample (s : State) :
    (brakeSetConfirmed s).loop.brakeSample = s.loop.brakeSample := by
  unfold brakeSetConfirmed
  split
  · rfl
  · split <;> rfl
  · split <;> rfl
  all_goals rfl

theorem confirmBrake_brakeSample (s : State) : (confirmBrake s).loop.brakeSample = s.loop.brakeSample := by
  unfold confirmBrake
  dsimp only
  split
  · rfl
  · exact brakeSetConfirmed_brakeSample _

/-- The sample of BRKFB is kept, whatever follows from it, and the other samples stay. -/
theorem brakeSampleWork_samples (f : Feedback) (s : State) :
    (brakeSampleWork f s).stop.samples = s.stop.samples ∧ (brakeSampleWork f s).loop.brakeSample = f := by
  unfold brakeSampleWork
  dsimp only
  split
  · split
    · exact ⟨by rw [(confirmBrake_only _).stop]; rfl, confirmBrake_brakeSample _⟩
    · exact ⟨rfl, rfl⟩
  · split
    · exact ⟨rfl, rfl⟩
    · exact takeCause_samples _ _ _
  · exact ⟨rfl, rfl⟩
  · exact ⟨rfl, rfl⟩

/-! ### The record grows (R139) -/

theorem inLater_addLater (l : BitVec 24) (c : FaultCode) : inLater (addLater l c) c = true := by
  unfold inLater addLater
  rw [BitVec.getLsbD_or, Bool.or_eq_true]
  exact .inr (by cases c <;> decide)

theorem inLater_mono {l : BitVec 24} {c : FaultCode} (d : FaultCode) (h : inLater l c = true) :
    inLater (addLater l d) c = true := by
  unfold inLater addLater at *
  rw [BitVec.getLsbD_or, h, Bool.true_or]

/-- Whether a cause stands in a Stop Controller's record. -/
def StopController.holds (x : StopController) (c : FaultCode) : Prop :=
  (∃ src, x.first = some (c, src)) ∨ inLater x.later c = true

theorem holdsCause_iff {c : FaultCode} : s.holdsCause c ↔ s.stop.holds c := Iff.rfl

theorem record_holds (x : StopController) (c : FaultCode) (src : Nat) : (x.record c src).holds c := by
  cases h : x.first with
  | none => rw [record_opens h]; exact .inl ⟨src, rfl⟩
  | some p => rw [record_adds h]; exact .inr (inLater_addLater _ _)

theorem record_holds_mono {x : StopController} {c : FaultCode} (d : FaultCode) (src : Nat) (h : x.holds c) :
    (x.record d src).holds c := by
  cases hf : x.first with
  | none =>
    rw [record_opens hf]
    rcases h with ⟨_, h⟩ | h
    · rw [hf] at h; cases h
    · exact .inr h
  | some p =>
    rw [record_adds hf]
    exact h.imp id (inLater_mono d)

theorem StopMade.record_kept {cat : Category} (h : StopMade s cat t) {c : FaultCode} (hs : s.stop.holds c) :
    t.stop.holds c := by
  cases h with
  | inForce | brakeStands | ramps => exact hs
  | drops => rw [show (immediateRequest (stoppedIn .immediate s)).stop = _ from dropped_stop s]; exact hs
  | holds => rw [show (assistRequest (stoppedIn .assist s)).stop = _ from assisted_stop s]; exact hs

theorem takeCause_holds (c : FaultCode) (src : Nat) (ho : s.seq.state.operating = true) :
    (takeCause c src s).holdsCause c :=
  takeCause_induction (P := fun t => t.stop.holds c) (fun _ h => h) c src
    (fun idle => by rw [idle] at ho; cases ho) fun _ made => made.record_kept (record_holds _ _ _)

theorem takeCause_holds_mono {c : FaultCode} (d : FaultCode) (src : Nat) (h : s.holdsCause c) :
    (takeCause d src s).holdsCause c :=
  takeCause_induction (P := fun t => t.stop.holds c) (fun _ h => h) d src (fun _ => h)
    fun _ made => made.record_kept (record_holds_mono d src h)

theorem brakeSampleWork_holds_mono {c : FaultCode} (f : Feedback) (h : s.holdsCause c) :
    (brakeSampleWork f s).holdsCause c := by
  unfold brakeSampleWork
  dsimp only
  split
  · split
    · rw [holdsCause_iff, (confirmBrake_only _).stop]; exact h
    · exact h
  · split
    · exact h
    · exact takeCause_holds_mono (s := s.withLoop { s.loop with brakeSample := f, supervision := .failed }) _ _ h
  · exact h
  · exact h

/-! ### The local inputs (R149, R150) -/

theorem raiseIf_operating (cond : Bool) (c : FaultCode) (s : State) :
    (raiseIf cond c s).seq.state.operating = s.seq.state.operating := by
  unfold raiseIf
  split
  · exact takeCause_operating _ _ _
  · rfl

theorem raiseIf_holds {cond : Bool} (c : FaultCode) (ho : s.seq.state.operating = true) (h : cond = true) :
    (raiseIf cond c s).holdsCause c := by
  rw [raiseIf, if_pos h]; exact takeCause_holds c _ ho

theorem raiseIf_holds_mono {c : FaultCode} (cond : Bool) (d : FaultCode) (h : s.holdsCause c) :
    (raiseIf cond d s).holdsCause c := by
  unfold raiseIf
  split
  · exact takeCause_holds_mono d _ h
  · exact h

theorem raiseIf_none {cond : Bool} (c : FaultCode) (h : s.seq.state.operating = false ∨ cond = false) :
    raiseIf cond c s = s := by
  unfold raiseIf
  split
  next hc =>
    rcases h with h | h
    · exact takeCause_idle c _ h
    · rw [h] at hc; cases hc
  next => rfl

/-- The samples that the local inputs leave (R149, R150, R153). -/
theorem localInputs_samples (i : StrobeInputs) (s : State) :
    (localInputs i s).stop.samples = (false, i.lstop, s.dipLevel, i.dflt, s.stop.dipTimer) ∧
      (localInputs i s).loop.brakeSample = s.loop.brakeSample := by
  unfold localInputs
  obtain ⟨dflt, sample₃⟩ := raiseIf_samples i.dflt .driveFault
    (raiseIf s.dipRaises .supplyDip (raiseIf (s.stop.localLatch || i.lstop) .localStop (sampleInputs i s)))
  obtain ⟨dip, sample₂⟩ := raiseIf_samples s.dipRaises .supplyDip
    (raiseIf (s.stop.localLatch || i.lstop) .localStop (sampleInputs i s))
  obtain ⟨lstop, sample₁⟩ := raiseIf_samples (s.stop.localLatch || i.lstop) .localStop (sampleInputs i s)
  exact ⟨dflt.trans (dip.trans lstop), sample₃.trans (sample₂.trans sample₁)⟩

/-- What the local inputs raise in operation. -/
theorem localInputs_holds (i : StrobeInputs) (ho : s.seq.state.operating = true) :
    (s.stop.localLatch = true ∨ i.lstop = true → (localInputs i s).holdsCause .localStop) ∧
      (i.dflt = true → (localInputs i s).holdsCause .driveFault) ∧
      (s.dipRaises = true → (localInputs i s).holdsCause .supplyDip) := by
  have o₁ : (raiseIf (s.stop.localLatch || i.lstop) .localStop (sampleInputs i s)).seq.state.operating = true :=
    (raiseIf_operating _ _ _).trans ho
  have o₂ := (raiseIf_operating s.dipRaises .supplyDip _).trans o₁
  refine ⟨fun h => ?_, fun h => raiseIf_holds _ o₂ h, fun h => raiseIf_holds_mono _ _ (raiseIf_holds _ o₁ h)⟩
  refine raiseIf_holds_mono _ _ (raiseIf_holds_mono _ _ (raiseIf_holds (s := sampleInputs i s) _ ho ?_))
  rwa [Bool.or_eq_true]

theorem localInputs_holds_mono {c : FaultCode} (i : StrobeInputs) (h : s.holdsCause c) :
    (localInputs i s).holdsCause c :=
  raiseIf_holds_mono _ _ (raiseIf_holds_mono _ _ (raiseIf_holds_mono (s := sampleInputs i s) _ _ h))

theorem localInputs_none (i : StrobeInputs) (h : s.seq.state.operating = false ∨
    (s.stop.localLatch = false ∧ i.lstop = false ∧ i.dflt = false ∧ s.dipRaises = false)) :
    localInputs i s = sampleInputs i s := by
  have first : raiseIf (s.stop.localLatch || i.lstop) .localStop (sampleInputs i s) = sampleInputs i s :=
    raiseIf_none (s := sampleInputs i s) _ (h.imp_right fun h => by rw [h.1, h.2.1]; rfl)
  have second : raiseIf s.dipRaises .supplyDip (sampleInputs i s) = sampleInputs i s :=
    raiseIf_none (s := sampleInputs i s) _ (h.imp_right fun h => h.2.2.2)
  unfold localInputs
  rw [first, second]
  exact raiseIf_none (s := sampleInputs i s) _ (h.imp_right fun h => h.2.2.1)

/-! ### The brake feedback (R113 to R116) -/

/-- The sample of BRKFB matches the brake command. -/
theorem feedbackMatches_iff {c : BrakeCommand} {f : Feedback} :
    feedbackMatches c f = true ↔ f = (if c = .set then .set else .released) := by
  cases c <;> cases f <;> decide

theorem brakeSampleWork_kept (f : Feedback) (h : s.loop.supervision = .idle ∨ s.loop.supervision = .failed ∨
    (s.loop.supervision = .matched ∧ feedbackMatches s.loop.brake f = true) ∨
    (s.loop.supervision = .waiting ∧ ¬ feedbackMatches s.loop.brake f = true)) :
    brakeSampleWork f s = s.withLoop { s.loop with brakeSample := f } := by
  unfold brakeSampleWork
  rcases h with h | h | ⟨h, matching⟩ | ⟨h, matching⟩ <;> rw [h]
  · exact if_pos matching
  · exact if_neg matching

theorem brakeSampleWork_confirms (f : Feedback) (h : s.loop.supervision = .waiting)
    (matching : feedbackMatches s.loop.brake f = true) :
    brakeSampleWork f s = confirmBrake (s.withLoop { s.loop with brakeSample := f }) := by
  unfold brakeSampleWork
  rw [h]
  exact if_pos matching

theorem brakeSampleWork_fails (f : Feedback) (h : s.loop.supervision = .matched)
    (lost : ¬ feedbackMatches s.loop.brake f = true) : brakeSampleWork f s =
      takeCause (brakeFault s.loop.brake) s.own
        (s.withLoop { s.loop with brakeSample := f, supervision := .failed }) := by
  unfold brakeSampleWork
  rw [h]
  exact if_neg lost

/-! ### The strobe -/

/-- The work of a strobe with the microseconds before it. -/
def strobeAfter (dt : Nat) (i : StrobeInputs) (localFirst : Bool) (s : State) : State :=
  strobeWork i localFirst (elapseUs dt s)

theorem exec_strobe (dt : Nat) (i : StrobeInputs) (localFirst : Bool) (quiet : s.quiet = true) :
    exec (.strobe dt i localFirst) s = .next (beginAttempt (strobeWork i localFirst (elapseUs dt s))) :=
  external_of_quiet (strobeAfter dt i localFirst) quiet

theorem elapse_stop_samples (n : Nat) (s : State) : (elapse n s).stop.localLatch = s.stop.localLatch ∧
    (elapse n s).stop.first = s.stop.first ∧ (elapse n s).stop.category = s.stop.category ∧
    (elapse n s).stop.assist = s.stop.assist ∧ (elapse n s).stop.phase = s.stop.phase := by
  obtain ⟨dip, on, clk, hstop⟩ := elapse_stop n s
  rw [hstop]; exact ⟨rfl, rfl, rfl, rfl, rfl⟩

theorem dipRaises_iff : s.dipRaises = true ↔
    s.dipLevel = true ∧ dipFilterTime s.params.dipCode ≤ s.stop.dipTimer := by
  rw [State.dipRaises, Bool.and_eq_true, decide_eq_true_iff]

theorem dipRaises_false : s.dipRaises = false ↔
    s.dipLevel = false ∨ s.stop.dipTimer < dipFilterTime s.params.dipCode := by
  rw [State.dipRaises, Bool.and_eq_false_iff, decide_eq_false_iff_not, Nat.not_le]

/-- The tension sample of a strobe leaves what its brake feedback and its local inputs read. -/
theorem tensionSampleWork_reads (x : Int) (s : State) : (tensionSampleWork x s).dipRaises = s.dipRaises := by
  have only := tensionSampleWork_only s x
  unfold State.dipRaises
  rw [only.dipLevel, only.params, only.stop]

theorem brakeSampleWork_reads (f : Feedback) (s : State) : (brakeSampleWork f s).dipRaises = s.dipRaises ∧
    (brakeSampleWork f s).stop.localLatch = s.stop.localLatch := by
  have only := brakeSampleWork_only s f
  have samples := (brakeSampleWork_samples f s).1
  simp only [StopController.samples, Prod.mk.injEq] at samples
  obtain ⟨latch, -, -, -, timer⟩ := samples
  unfold State.dipRaises
  rw [only.dipLevel, only.params, timer]
  exact ⟨rfl, latch⟩

theorem strobeWork_first (i : StrobeInputs) (s : State) : strobeWork i true s =
    brakeSampleWork i.brkfb (localInputs i (tensionSampleWork i.tension.toInt s)) := rfl

theorem strobeWork_last (i : StrobeInputs) (s : State) : strobeWork i false s =
    localInputs i (brakeSampleWork i.brkfb (tensionSampleWork i.tension.toInt s)) := rfl

/-- The samples that a strobe leaves, in either order of its two parts. -/
theorem strobeWork_samples (i : StrobeInputs) (localFirst : Bool) (s : State) :
    (strobeWork i localFirst s).stop.samples = (false, i.lstop, s.dipLevel, i.dflt, s.stop.dipTimer) ∧
      (strobeWork i localFirst s).loop.brakeSample = i.brkfb := by
  let u := tensionSampleWork i.tension.toInt s
  have only : s.changesOnly [.tens, .loader] u := tensionSampleWork_only s _
  cases localFirst with
  | true =>
    obtain ⟨samples, sample⟩ := brakeSampleWork_samples i.brkfb (localInputs i u)
    refine ⟨samples.trans ?_, sample⟩
    rw [(localInputs_samples i u).1, only.dipLevel, only.stop]
  | false =>
    obtain ⟨samples, sample⟩ := localInputs_samples i (brakeSampleWork i.brkfb u)
    obtain ⟨before, kept⟩ := brakeSampleWork_samples i.brkfb u
    refine ⟨samples.trans ?_, sample.trans kept⟩
    simp only [StopController.samples, Prod.mk.injEq] at before
    obtain ⟨-, -, -, -, timer⟩ := before
    rw [(brakeSampleWork_only u _).dipLevel, timer, only.dipLevel, only.stop]

/-- The causes that a strobe in operation leaves in the record, in either order of its two parts. -/
theorem strobeWork_holds (i : StrobeInputs) (localFirst : Bool) (ho : s.seq.state.operating = true) :
    (s.stop.localLatch = true ∨ i.lstop = true → (strobeWork i localFirst s).holdsCause .localStop) ∧
      (i.dflt = true → (strobeWork i localFirst s).holdsCause .driveFault) ∧
      (s.dipRaises = true → (strobeWork i localFirst s).holdsCause .supplyDip) := by
  let u := tensionSampleWork i.tension.toInt s
  have only : s.changesOnly [.tens, .loader] u := tensionSampleWork_only s _
  have reads : u.dipRaises = s.dipRaises := tensionSampleWork_reads _ s
  have operating : u.seq.state.operating = true := by rw [only.seq]; exact ho
  cases localFirst with
  | true =>
    obtain ⟨lstop, dflt, dip⟩ := localInputs_holds (s := u) i operating
    rw [only.stop] at lstop
    rw [reads] at dip
    exact ⟨fun h => brakeSampleWork_holds_mono _ (lstop h), fun h => brakeSampleWork_holds_mono _ (dflt h),
      fun h => brakeSampleWork_holds_mono _ (dip h)⟩
  | false =>
    obtain ⟨raises, latch⟩ := brakeSampleWork_reads i.brkfb u
    obtain ⟨lstop, dflt, dip⟩ := localInputs_holds (s := brakeSampleWork i.brkfb u) i
      ((brakeSampleWork_operating _ _).trans operating)
    rw [latch, only.stop] at lstop
    rw [raises, reads] at dip
    exact ⟨lstop, dflt, dip⟩

/-- A strobe in which no local input raises anything: its brake feedback, and the samples kept before or after it. -/
theorem strobeWork_brake (i : StrobeInputs) (localFirst : Bool) (h : s.seq.state.operating = false ∨
    (s.stop.localLatch = false ∧ i.lstop = false ∧ i.dflt = false ∧ s.dipRaises = false)) :
    strobeWork i localFirst s =
      if localFirst then brakeSampleWork i.brkfb (sampleInputs i (tensionSampleWork i.tension.toInt s))
      else sampleInputs i (brakeSampleWork i.brkfb (tensionSampleWork i.tension.toInt s)) := by
  let u := tensionSampleWork i.tension.toInt s
  have only : s.changesOnly [.tens, .loader] u := tensionSampleWork_only s _
  have reads : u.dipRaises = s.dipRaises := tensionSampleWork_reads _ s
  have none : u.seq.state.operating = false ∨
      (u.stop.localLatch = false ∧ i.lstop = false ∧ i.dflt = false ∧ u.dipRaises = false) := by
    rw [only.seq, only.stop, reads]; exact h
  cases localFirst with
  | true =>
    rw [strobeWork_first, localInputs_none i none]; rfl
  | false =>
    obtain ⟨raises, latch⟩ := brakeSampleWork_reads i.brkfb u
    rw [strobeWork_last]
    exact localInputs_none i (by rw [brakeSampleWork_operating, latch, raises]; exact none)

theorem withStop_withLoop_comm (x : StopController) (l : LineLoop) (s : State) :
    (s.withStop x).withLoop l = (s.withLoop l).withStop x := rfl

/-- A strobe that finds nothing to act on keeps its samples. -/
theorem strobeWork_quiet (i : StrobeInputs) (localFirst : Bool) (h : s.seq.state.operating = false ∨
    (s.stop.localLatch = false ∧ i.lstop = false ∧ i.dflt = false ∧ s.dipRaises = false))
    (kept : s.loop.supervision = .idle ∨ s.loop.supervision = .failed ∨
      (s.loop.supervision = .matched ∧ feedbackMatches s.loop.brake i.brkfb = true) ∨
      (s.loop.supervision = .waiting ∧ ¬ feedbackMatches s.loop.brake i.brkfb = true)) :
    strobeWork i localFirst s =
      (sampleInputs i (tensionSampleWork i.tension.toInt s)).withLoop { s.loop with brakeSample := i.brkfb } := by
  let u := tensionSampleWork i.tension.toInt s
  have loop : u.loop = s.loop := (tensionSampleWork_only s _).loop
  have work (v : State) (hv : v.loop = s.loop) :
      brakeSampleWork i.brkfb v = v.withLoop { s.loop with brakeSample := i.brkfb } := by
    rw [← hv] at kept ⊢
    exact brakeSampleWork_kept i.brkfb kept
  rw [strobeWork_brake i localFirst h]
  cases localFirst with
  | true => exact work (sampleInputs i u) loop
  | false =>
    refine (congrArg (sampleInputs i) (work u loop)).trans ?_
    rfl

/-- The tension sample, once the shunt span check has requested it. -/
theorem tensionSampleWork_requested (x : Int) (h : s.tens.requested = true) : tensionSampleWork x s =
    (s.withTens (s.tens.sample s.params.m x)).withLoader (s.loader.countSample x) := if_pos h

theorem tensionSampleWork_off (x : Int) (h : s.tens.requested = false) : tensionSampleWork x s = s :=
  if_neg (by rw [h]; decide)

/-- What a sample leaves in the Tension Filter (R127). -/
theorem TensionFilter.sample_eq (f : TensionFilter) (m : Nat) (x : Int) :
    (f.sample m x).line = (if f.started then f.line.tail ++ [x] else List.replicate (2 ^ m) x) ∧
      (f.sample m x).sum = (if f.started then f.sum - f.line.headD 0 + x else 2 ^ m * x) ∧
      (f.sample m x).started = true ∧ (f.sample m x).latched = f.latched := by
  unfold TensionFilter.sample
  split
  next started => exact ⟨rfl, rfl, started, rfl⟩
  next => exact ⟨rfl, by push_cast; rfl, rfl, rfl⟩

/-- A sample counted after the microseconds before the strobe: the shunt span check's own counters stand still
meanwhile. -/
theorem countSample_elapse (n : Nat) (x : Int) (s : State) : (elapse n s).loader.countSample x =
    if s.loader.progress = .shunt then { (elapse n s).loader with
      shuntCount := s.loader.shuntCount + 1
      shuntSum := if s.loader.shuntPhase = .measure then s.loader.shuntSum + x else s.loader.shuntSum }
    else (elapse n s).loader := by
  unfold ImageLoader.countSample
  rw [elapse_progress]
  split
  next progress =>
    have still : (elapse n s).loader = s.loader := if_neg (by rw [progress]; decide)
    rw [still]
  next => rfl

theorem elapse_supervision (n : Nat) (s : State) : (elapse n s).loop.supervision = s.loop.supervision ∧
    (elapse n s).loop.brake = s.loop.brake := ⟨rfl, rfl⟩

/-- Settles O30: the samples, the causes, and the strobe that finds nothing to act on. -/
theorem strobeTakesItsSamples : Obligations.StrobeTakesItsSamples := by
  unfold Obligations.StrobeTakesItsSamples
  refine ⟨rfl, rfl, rfl, rfl, fun dt i localFirst s quiet => ?_⟩
  intro u
  have latch : u.stop.localLatch = s.stop.localLatch := (elapse_stop_samples _ s).1
  have progress : u.loader.progress = s.loader.progress := elapse_progress _ s
  obtain ⟨x, hx⟩ := beginAttempt_eq_withLink (strobeWork i localFirst u)
  obtain ⟨samples, sample⟩ := strobeWork_samples i localFirst u
  simp only [StopController.samples, Prod.mk.injEq] at samples
  obtain ⟨latch', lstop', dip', dflt', -⟩ := samples
  have only := (strobeWork_only u i localFirst).next (beginAttempt_only _)
    (l := [.link, .seq, .loop, .tens, .creep, .stop, .loader])
  have measured : (strobeWork i localFirst u).tens = (tensionSampleWork i.tension.toInt u).tens ∧
      (strobeWork i localFirst u).loader = (tensionSampleWork i.tension.toInt u).loader := by
    cases localFirst with
    | true =>
      rw [strobeWork_first]
      exact ⟨((brakeSampleWork_only _ _).tens).trans (localInputs_only _ _).tens,
        ((brakeSampleWork_only _ _).loader).trans (localInputs_only _ _).loader⟩
    | false =>
      rw [strobeWork_last]
      exact ⟨((localInputs_only _ _).tens).trans (brakeSampleWork_only _ _).tens,
        ((localInputs_only _ _).loader).trans (brakeSampleWork_only _ _).loader⟩
  obtain ⟨tens, loader⟩ := measured
  refine ⟨beginAttempt (strobeWork i localFirst u), exec_strobe dt i localFirst quiet, ?_⟩
  refine ⟨?_, ?_, ?_, ?_, ?_, fun on => ?_, fun off => ?_, fun ho => ?_, ?_, only⟩
  · rw [hx]; exact sample
  · rw [hx]; exact latch'
  · rw [hx]; exact lstop'
  · rw [hx]; exact dip'
  · rw [hx]; exact dflt'
  · rw [hx]
    show (strobeWork i localFirst u).tens.line = _ ∧ (strobeWork i localFirst u).tens.sum = _ ∧
      (strobeWork i localFirst u).tens.started = _ ∧ (strobeWork i localFirst u).tens.latched = _ ∧
      (strobeWork i localFirst u).loader = _
    rw [tens, loader, tensionSampleWork_requested (s := u) _ on]
    obtain ⟨line, sum, started, latched⟩ := TensionFilter.sample_eq s.tens s.params.m i.tension.toInt
    exact ⟨line, sum, started, latched, countSample_elapse _ _ s⟩
  · rw [hx]
    show (strobeWork i localFirst u).tens = _ ∧ (strobeWork i localFirst u).loader = _
    rw [tens, loader, tensionSampleWork_off (s := u) _ off]
    exact ⟨rfl, rfl⟩
  · obtain ⟨lstop, dflt, dip⟩ := strobeWork_holds (s := u) i localFirst ho
    rw [hx]
    refine ⟨fun h => lstop (by rw [latch]; exact h), dflt, fun level filter => dip (dipRaises_iff.mpr ⟨level, filter⟩)⟩
  · intro raisesNothing matching nothing kept
    have quietInputs : u.seq.state.operating = false ∨ (u.stop.localLatch = false ∧ i.lstop = false ∧
        i.dflt = false ∧ u.dipRaises = false) := by
      rw [latch]
      exact nothing.imp_right fun ⟨latch, lstop, dflt, dip⟩ => ⟨latch, lstop, dflt, dipRaises_false.mpr dip⟩
    obtain ⟨supervision, brake⟩ := elapse_supervision (clocksPerMicrosecond * dt) s
    have work := strobeWork_quiet (s := u) i localFirst quietInputs (by
      rw [show u.loop.supervision = _ from supervision, show u.loop.brake = _ from brake]
      simp only [feedbackMatches_iff]
      exact kept)
    let w : State := (sampleInputs i (tensionSampleWork i.tension.toInt u)).withLoop
      { u.loop with brakeSample := i.brkfb }
    have work : strobeWork i localFirst u = w := work
    have only := tensionSampleWork_only u i.tension.toInt
    have seq : w.seq = s.seq := only.seq
    have link : w.link = s.link := only.link
    refine ⟨?_, ?_, ?_, ?_, fun still => ?_⟩
    · rw [hx, work]; exact seq
    · rw [hx, work]; exact only.creep
    · rw [hx, work]; rfl
    · rw [hx, work]
      show { (tensionSampleWork i.tension.toInt u).stop with
        localLatch := false, lstopSample := i.lstop,
        dipSample := (tensionSampleWork i.tension.toInt u).dipLevel, dfltSample := i.dflt } = _
      rw [only.stop, only.dipLevel]
      rfl
    · rw [work]
      rcases still with busy | none | off
      · rw [beginAttempt_busy (by rw [link]; exact busy)]; exact link
      · rw [beginAttempt_empty (by rw [link]; exact none)]; exact link
      · rw [beginAttempt_idle (by rw [seq]; exact off)]; exact link

/-! ### The strobe that confirms the brake (R114) -/

/-- The brake is confirmed in a stop that neither settles nor holds by the drive. -/
def State.stopStands (s : State) : Prop :=
  (s.seq.state = .stopping ∧ ¬ s.stop.phase = .settling) ∨ (s.seq.state = .stopped ∧ s.stop.assist = false)

/-- No park, no controlled stop and no stop without ASSIST waits for the brake. -/
def State.brakeUnheeded (s : State) : Prop :=
  s.seq.state ≠ .parking ∧ s.seq.state ≠ .stopping ∧ (s.seq.state = .stopped → s.stop.assist = true)

theorem brakeSetConfirmed_stands (h : s.stopStands) : brakeSetConfirmed s = armCreep s := by
  unfold brakeSetConfirmed
  rcases h with ⟨state, phase⟩ | ⟨state, assist⟩
  · rw [state]; exact if_neg phase
  · rw [state]; exact if_neg (by rw [assist]; decide)

theorem brakeSetConfirmed_unheeded (h : s.brakeUnheeded) : brakeSetConfirmed s = s := by
  obtain ⟨park, stop, stopped⟩ := h
  unfold brakeSetConfirmed
  cases hs : s.seq.state with
  | parking => exact absurd hs park
  | stopping => exact absurd hs stop
  | stopped => exact if_pos (stopped hs)
  | start | ready | primed | flying | locked => rfl

theorem brakeConfirmed_cases (s : State) : s.seq.state = .parking ∨
    (s.seq.state = .stopping ∧ s.stop.phase = .settling) ∨ s.stopStands ∨ s.brakeUnheeded := by
  unfold State.stopStands State.brakeUnheeded
  cases s.seq.state <;> cases s.stop.phase <;> cases s.stop.assist <;> decide

theorem sampleInputs_brakeSetConfirmed (i : StrobeInputs) (s : State) :
    sampleInputs i (brakeSetConfirmed s) = brakeSetConfirmed (sampleInputs i s) := by
  rcases brakeConfirmed_cases s with h | ⟨h, phase⟩ | h | h
  · rw [brakeSetConfirmed_parking h, brakeSetConfirmed_parking (s := sampleInputs i s) h]; rfl
  · rw [brakeSetConfirmed_settling h phase, brakeSetConfirmed_settling (s := sampleInputs i s) h phase]; rfl
  · rw [brakeSetConfirmed_stands h, brakeSetConfirmed_stands (s := sampleInputs i s) h]; rfl
  · rw [brakeSetConfirmed_unheeded h, brakeSetConfirmed_unheeded (s := sampleInputs i s) h]

/-- The samples of the local inputs are nothing to a confirmation of the brake. -/
theorem sampleInputs_confirmBrake (i : StrobeInputs) (s : State) :
    sampleInputs i (confirmBrake s) = confirmBrake (sampleInputs i s) := by
  cases hb : s.loop.brake with
  | release => rw [confirmBrake_release hb, confirmBrake_release (s := sampleInputs i s) hb]; rfl
  | set =>
    rw [confirmBrake_set hb, confirmBrake_set (s := sampleInputs i s) hb]
    exact sampleInputs_brakeSetConfirmed i _

/-- The state in which a strobe's brake feedback is taken: the tension sample and the local inputs are kept. -/
def strobeSampled (i : StrobeInputs) (s : State) : State :=
  (sampleInputs i (tensionSampleWork i.tension.toInt s)).withLoop { s.loop with brakeSample := i.brkfb }

/-- Nothing at the local inputs, and no dip that has lasted its filter time. -/
def State.noLocalCause (s : State) (i : StrobeInputs) : Prop :=
  s.stop.localLatch = false ∧ i.lstop = false ∧ i.dflt = false ∧ s.dipRaises = false

/-- A strobe whose feedback matches the command that waits for it confirms the brake, in either order of its parts. -/
theorem strobeWork_confirms (i : StrobeInputs) (localFirst : Bool) (nothing : s.noLocalCause i)
    (waiting : s.loop.supervision = .waiting) (matching : feedbackMatches s.loop.brake i.brkfb = true) :
    strobeWork i localFirst s = confirmBrake (strobeSampled i s) := by
  let u := tensionSampleWork i.tension.toInt s
  have loop : u.loop = s.loop := (tensionSampleWork_only s _).loop
  have work (v : State) (hv : v.loop = s.loop) :
      brakeSampleWork i.brkfb v = confirmBrake (v.withLoop { s.loop with brakeSample := i.brkfb }) := by
    rw [← hv] at waiting matching ⊢
    exact brakeSampleWork_confirms i.brkfb waiting matching
  rw [strobeWork_brake i localFirst (.inr nothing)]
  cases localFirst with
  | true => exact work (sampleInputs i u) loop
  | false => exact (congrArg (sampleInputs i) (work u loop)).trans (sampleInputs_confirmBrake i _)

/-- Settles O31: by the command that stands, and under SET by what waits for the brake. -/
theorem matchingStrobeConfirmsTheBrake : Obligations.MatchingStrobeConfirmsTheBrake := by
  unfold Obligations.MatchingStrobeConfirmsTheBrake
  intro dt i localFirst s quiet operating lstop dflt dip latch waiting busy matching
  let u := elapseUs dt s
  have nothing : u.noLocalCause i :=
    ⟨(elapse_stop_samples _ s).1.trans latch, lstop, dflt, dipRaises_false.mpr (.inl dip)⟩
  have work := strobeWork_confirms (s := u) i localFirst nothing waiting (feedbackMatches_iff.mpr matching)
  let w := strobeSampled i u
  have only := tensionSampleWork_only u i.tension.toInt
  obtain ⟨-, first, category, assist, phase⟩ := elapse_stop_samples (clocksPerMicrosecond * dt) s
  have wstop : w.stop.first = s.stop.first ∧ w.stop.category = s.stop.category ∧
      w.stop.assist = s.stop.assist ∧ w.stop.phase = s.stop.phase := by
    have stop : (tensionSampleWork i.tension.toInt u).stop = u.stop := only.stop
    exact ⟨(congrArg StopController.first stop).trans first, (congrArg StopController.category stop).trans category,
      (congrArg StopController.assist stop).trans assist, (congrArg StopController.phase stop).trans phase⟩
  have wseq : w.seq = s.seq := only.seq
  have wcreep : w.creep = s.creep := only.creep
  have wlen : w.len = s.len := only.len
  have wlink : w.link = s.link := only.link
  obtain ⟨wfirst, wcategory, wassist, wphase⟩ := wstop
  have kept := confirmBrake_only w
  have link : (strobeWork i localFirst u).link = s.link := by rw [work, kept.link, wlink]
  refine ⟨confirmBrake w, ?_, ?_⟩
  · rw [exec_strobe dt i localFirst quiet, beginAttempt_busy (by rw [link]; exact busy), work]
  rw [kept.stop, kept.link]
  cases brake : s.loop.brake with
  | release =>
    rw [confirmBrake_release (s := w) brake, if_neg (fun h => nomatch h.1), if_neg (fun h => nomatch h.1)]
    exact ⟨rfl, brake, rfl, wfirst, wcategory, wassist, wphase, wlink, wseq, rfl, rfl, wcreep⟩
  | set =>
    let x : State := w.withLoop { w.loop with supervision := .matched }
    rw [show confirmBrake w = brakeSetConfirmed x from confirmBrake_set brake]
    have arms : armCreep x = x.withCreep { reference := s.len.measured, armed := true } := by
      rw [← wlen]; rfl
    rcases brakeConfirmed_cases w with h | ⟨h, settling⟩ | h | h
    · rw [brakeSetConfirmed_parking (s := x) h, arms, ← wseq, if_pos ⟨rfl, .inl h⟩, if_pos h]
      exact ⟨rfl, brake, rfl, wfirst, wcategory, wassist, wphase, wlink, rfl, rfl, rfl, rfl, rfl⟩
    · rw [brakeSetConfirmed_settling (s := x) h settling, arms, ← wseq, if_pos ⟨rfl, .inr ⟨h, wphase ▸ settling⟩⟩,
        if_neg (by rw [h]; decide)]
      exact ⟨rfl, brake, rfl, wfirst, wcategory, wassist, wphase, wlink, rfl, rfl, rfl, rfl, rfl⟩
    · have out : ¬ (BrakeCommand.set = .set ∧ (w.seq.state = .parking ∨
          w.seq.state = .stopping ∧ s.stop.phase = .settling)) := by
        rw [← wphase]
        rintro ⟨-, park | ⟨stop, settling⟩⟩ <;> rcases h with ⟨state, phase⟩ | ⟨state, -⟩
        · cases state.symm.trans park
        · cases state.symm.trans park
        · exact phase settling
        · cases state.symm.trans stop
      have stands : w.seq.state = .stopping ∨ w.seq.state = .stopped ∧ s.stop.assist = false := by
        rw [← wassist]; exact h.imp And.left id
      rw [brakeSetConfirmed_stands (s := x) h, arms, ← wseq, if_neg out, if_pos ⟨rfl, stands⟩]
      exact ⟨rfl, brake, rfl, wfirst, wcategory, wassist, wphase, wlink, rfl, rfl, rfl, rfl⟩
    · obtain ⟨park, stop, stopped⟩ := h
      rw [brakeSetConfirmed_unheeded (s := x) ⟨park, stop, stopped⟩, ← wseq,
        if_neg (fun h => h.2.elim park fun h => stop h.1),
        if_neg (fun h => h.2.elim stop fun h => by cases wassist.symm.trans (stopped h.1) ▸ h.2)]
      exact ⟨rfl, brake, rfl, wfirst, wcategory, wassist, wphase, wlink, rfl, rfl, rfl, wcreep⟩

/-! ### The strobe that loses the brake (R116) -/

/-- The state in which the brake's fault is taken at a strobe: its sample kept, the supervision FAILED. -/
def brakeLost (f : Feedback) (s : State) : State :=
  s.withLoop { s.loop with brakeSample := f, supervision := .failed }

/-- A strobe whose feedback no longer matches takes the brake's fault, before or after it keeps the local inputs. -/
theorem strobeWork_fails {P : State → Prop} (i : StrobeInputs) (localFirst : Bool) (nothing : s.noLocalCause i)
    (matched : s.loop.supervision = .matched) (lost : ¬ feedbackMatches s.loop.brake i.brkfb = true)
    (samples : ∀ t, P t → P (sampleInputs i t))
    (cause : ∀ z src, z = tensionSampleWork i.tension.toInt s ∨ z = sampleInputs i (tensionSampleWork i.tension.toInt s) →
      P (takeCause (brakeFault s.loop.brake) src (brakeLost i.brkfb z))) : P (strobeWork i localFirst s) := by
  let u := tensionSampleWork i.tension.toInt s
  have loop : u.loop = s.loop := (tensionSampleWork_only s _).loop
  have work (v : State) (hv : v.loop = s.loop) :
      brakeSampleWork i.brkfb v = takeCause (brakeFault s.loop.brake) v.own (brakeLost i.brkfb v) := by
    rw [← hv] at matched lost ⊢
    exact brakeSampleWork_fails i.brkfb matched lost
  rw [strobeWork_brake i localFirst (.inr nothing)]
  cases localFirst with
  | true =>
    show P (brakeSampleWork i.brkfb (sampleInputs i u))
    rw [work (sampleInputs i u) loop]; exact cause _ _ (.inr rfl)
  | false =>
    show P (sampleInputs i (brakeSampleWork i.brkfb u))
    rw [work u loop]; exact samples _ (cause _ _ (.inl rfl))

/-- Under SET the fault is recorded, SET stands, and the supervision stays FAILED. -/
theorem takeCause_brakeNotSet (src : Nat) (operating : s.seq.state.operating = true) (brake : s.loop.brake = .set)
    (failed : s.loop.supervision = .failed) :
    (takeCause .brakeNotSet src s).loop.supervision = .failed ∧ (takeCause .brakeNotSet src s).loop.brake = .set ∧
      (takeCause .brakeNotSet src s).holdsCause .brakeNotSet := by
  have loop : (takeCause .brakeNotSet src s).loop.supervision = .failed ∧
      (takeCause .brakeNotSet src s).loop.brake = .set := by
    refine takeCause_induction (P := fun t => t.loop.supervision = .failed ∧ t.loop.brake = .set) (fun _ h => h) _ src
      (fun _ => ⟨failed, brake⟩) fun _ made => ?_
    cases made with
    | inForce | brakeStands | ramps => exact ⟨failed, brake⟩
    | drops hc => cases hc
    | holds =>
      show (assisted _).loop.supervision = .failed ∧ (assisted _).loop.brake = .set
      rw [assisted_loop, setCommanded_of_set]
      · exact ⟨failed, brake⟩
      · exact brake
  exact ⟨loop.1, loop.2, takeCause_holds _ _ operating⟩

/-- Under RELEASE the fault stops the station on its brake, whose sample shows set already. -/
theorem takeCause_brakeNotReleased (src : Nat) (hr : s.recordFits) (hfit : s.outputsFit)
    (brake : s.loop.brake = .release) (sample : s.loop.brakeSample = .set) :
    let t := takeCause .brakeNotReleased src s
    t.loop.supervision = .matched ∧ t.loop.brake = .set ∧ t.loop.drive = false ∧ t.holdsCause .brakeNotReleased ∧
      t.seq.state = .stopped ∧ t.stop.category = .immediate := by
  intro t
  obtain ⟨-, state⟩ := hfit.brakeOnDrive brake
  have released : ¬ s.loop.brake = .set := by rw [brake]; decide
  have operating : s.seq.state.operating = true := by
    rcases state with h | h | ⟨h, -⟩ <;> rw [h] <;> rfl
  have stopped : t.stop.category = .immediate ∧ t.seq = { s.seq with state := .stopped } ∧
      s.brakeCommandedSet false t := by
    have inFlight (h : s.seq.state.inFlight = true) : t.stop.category = .immediate ∧
        t.seq = { s.seq with state := .stopped } ∧ s.brakeCommandedSet false t := by
      have outOfStop : s.seq.state.outOfStop = true := by
        rcases inFlight_iff.mp h with k | k | k <;> rw [k] <;> rfl
      obtain ⟨-, -, -, -, -, immediate, -⟩ := takeCause_opens (c := .brakeNotReleased) (src := src) (.inr h)
        (hr.empty outOfStop).1
      obtain ⟨category, -, seq, set, -⟩ := immediate rfl
      exact ⟨category, seq, set⟩
    rcases state with h | h | ⟨h, -⟩
    · exact inFlight (by rw [h]; rfl)
    · exact inFlight (by rw [h]; rfl)
    · obtain ⟨-, -, -, immediate, -⟩ := takeCause_stopping (c := .brakeNotReleased) (src := src) h
        ((recordFits_stopping h).mp hr).1.1
      obtain ⟨-, category, -, seq, set, -⟩ := immediate rfl
      exact ⟨category, seq, set⟩
  obtain ⟨category, seq, set, drive, supervision⟩ := stopped
  rw [if_neg released, if_pos sample] at supervision
  exact ⟨supervision.1, set, drive, takeCause_holds _ _ operating, by rw [seq], category⟩

/-- Settles O32: the fault of the command that stands, taken before or after the local inputs are kept. -/
theorem lostFeedbackFailsTheBrake : Obligations.LostFeedbackFailsTheBrake := by
  unfold Obligations.LostFeedbackFailsTheBrake
  intro dt i localFirst s quiet operating lstop dflt dip latch matched hr hfit unmatched
  let u := elapseUs dt s
  have nothing : u.noLocalCause i :=
    ⟨(elapse_stop_samples _ s).1.trans latch, lstop, dflt, dipRaises_false.mpr (.inl dip)⟩
  have lost : ¬ feedbackMatches u.loop.brake i.brkfb = true := fun h => unmatched (feedbackMatches_iff.mp h)
  have only := tensionSampleWork_only u i.tension.toInt
  let v := tensionSampleWork i.tension.toInt u
  have record : v.recordFits := (State.recordFits.op (.elapse s _) hr).same only.seq only.stop
  have outputs : v.outputsFit := (hfit.elapse _).sameBlocks only.loop only.seq only.stop
  have loop : v.loop = u.loop := only.loop
  obtain ⟨x, hx⟩ := beginAttempt_eq_withLink (strobeWork i localFirst u)
  refine ⟨beginAttempt (strobeWork i localFirst u), exec_strobe dt i localFirst quiet, ?_⟩
  rw [hx]
  cases brake : s.loop.brake with
  | set =>
    refine ⟨fun _ => ?_, (nomatch ·)⟩
    refine strobeWork_fails (P := fun t => t.loop.supervision = .failed ∧ t.loop.brake = .set ∧
        t.holdsCause .brakeNotSet ∧ (s.seq.state = .ready →
          t.seq.state = .stopped ∧ t.stop.category = .assist ∧ t.loop.drive = true))
      i localFirst nothing matched lost (fun _ h => h) fun z src hz => ?_
    have same : z.seq = s.seq ∧ z.loop = u.loop ∧ z.recordFits := by
      rcases hz with rfl | rfl <;> exact ⟨only.seq, loop, record⟩
    obtain ⟨seq, zloop, zrecord⟩ := same
    have zbrake : z.loop.brake = .set := by rw [zloop]; exact brake
    rw [show u.loop.brake = .set from brake]
    obtain ⟨failed, set, holds⟩ := takeCause_brakeNotSet (s := brakeLost i.brkfb z) src
      (by rw [← seq] at operating; exact operating) zbrake rfl
    refine ⟨failed, set, holds, fun ready => ?_⟩
    have zready : z.seq.state = .ready := by rw [seq]; exact ready
    obtain ⟨-, -, -, -, -, -, assist⟩ := takeCause_opens (s := brakeLost i.brkfb z) (c := .brakeNotSet) (src := src)
      (.inl zready) (zrecord.empty (by rw [zready]; rfl)).1
    obtain ⟨category, -, stopped, ⟨-, drive, -⟩, -⟩ := assist rfl
    exact ⟨congrArg Sequencer.state stopped, category, drive⟩
  | release =>
    refine ⟨(nomatch ·), fun _ => ?_⟩
    refine strobeWork_fails (P := fun t => t.loop.supervision = .matched ∧ t.loop.brake = .set ∧
        t.loop.drive = false ∧ t.holdsCause .brakeNotReleased ∧ t.seq.state = .stopped ∧
        t.stop.category = .immediate)
      i localFirst nothing matched lost (fun _ h => h) fun z src hz => ?_
    have same : z.recordFits ∧ z.outputsFit ∧ z.loop = u.loop := by
      rcases hz with rfl | rfl <;> exact ⟨record, outputs, loop⟩
    obtain ⟨zrecord, zoutputs, zloop⟩ := same
    have sample : i.brkfb = .set := by
      rw [brake] at unmatched
      cases hf : i.brkfb with
      | set => rfl
      | released => exact absurd hf unmatched
    rw [show u.loop.brake = .release from brake]
    have zbrake : z.loop.brake = .release := by rw [zloop]; exact brake
    exact takeCause_brakeNotReleased (s := brakeLost i.brkfb z) src zrecord zoutputs zbrake sample

end Sys2Proof.Machine
end

section
/-!
SUPPORT. The cycle start in the statements' words, the MARKs that make it, and the own MARK's due time (chapter 3).
-/

namespace Sys2Proof.Machine

set_option Elab.async false

variable {s t : State}

/-! ### The cycle start in every block (R43) -/

/-- The blocks that the cycle start event changes; the count and the transmit slots are not among them. -/
abbrev startedBlocks : List Block := [.peers, .seq, .gov, .loop, .len, .tens, .stop, .loader]

theorem cycleStart_leaves (s : State) : s.changesOnly startedBlocks (cycleStart s) := by
  have h1 := (withLen_only s { s.len with reading := true }).next (latchTension_only _) (l := startedBlocks)
  have h2 := h1.next (agePeers_only _) (l := startedBlocks)
  have h3 := h2.next (tickPrime_only _) (l := startedBlocks)
  have h4 := h3.next (tickStop_only _) (l := startedBlocks)
  have h5 := h4.next (tickBrake_only _) (l := startedBlocks)
  have h6 := h5.next (withGov_only _ _ : State.changesOnly _ _ (tickEnable _)) (l := startedBlocks)
  exact h6.next (tickListen_only _)

theorem tickPrime_seq (s : State) : (tickPrime s).seq =
    if s.seq.state = .primed then { s.seq with primeTimer := s.seq.primeTimer + 1 } else s.seq := by
  unfold tickPrime; split <;> rfl

theorem tickPrime_state (s : State) : (tickPrime s).seq.state = s.seq.state := by
  rw [tickPrime_seq]; split <;> rfl

theorem tickStop_stop (s : State) : (tickStop s).stop =
    if s.seq.state = .stopping then { s.stop with stopTimer := s.stop.stopTimer + 1 } else s.stop := by
  unfold tickStop; split <;> rfl

theorem tickBrake_loop (s : State) : (tickBrake s).loop =
    if s.loop.supervision = .waiting then { s.loop with supTimer := s.loop.supTimer + 1 } else s.loop := by
  unfold tickBrake; split <;> rfl

theorem tickListen_loader (s : State) : (tickListen s).loader =
    if s.loader.progress = .listen then
      { s.loader with listenCounter := min 64 (s.loader.listenCounter + 1) } else s.loader := by
  unfold tickListen; split <;> rfl

theorem latchTension_tens (s : State) : (latchTension s).tens = { s.tens with
    latched := if s.tens.started then tensionOf s.params s.tens.sum else s.tens.latched } := by
  unfold latchTension; split <;> rfl

/-- The latched tension with its clamp the other way round (R128). -/
theorem tensionOf_eq (p : Params) (sum : Int) : tensionOf p sum =
    (max 0 (min 65535 ((((if p.m = 0 then sum else (sum + 2 ^ (p.m - 1)) / 2 ^ p.m) + p.tOffset) * p.gain + 2048) /
      4096))).toNat := by
  have average : tensionAverage p.m sum = if p.m = 0 then sum else (sum + 2 ^ (p.m - 1)) / 2 ^ p.m := by
    unfold tensionAverage; push_cast; rfl
  unfold tensionOf
  rw [average]
  generalize ((_ + p.tOffset) * (p.gain : Int) + 2048) / 4096 = newtons
  omega

theorem peerPresence_lost_iff {n : Nat} {r : Row} :
    r.peerPresence n = .lost ↔ r.report.isSome = true ∧ 2 < r.age ∧ n ≤ r.age := by
  unfold Row.peerPresence
  cases r.report with
  | none => simp
  | some p =>
    simp only [Option.isSome_some, true_and]
    split
    next h => exact ⟨(nomatch ·), fun h' => by omega⟩
    next =>
      split
      next h => exact ⟨(nomatch ·), fun h' => by omega⟩
      next => exact ⟨fun _ => by omega, fun _ => rfl⟩

theorem ageRow_eq (s : State) (r : Row) : s.ageRow r =
    if r.station ≠ s.own ∧ r.report.isSome = true then { r with age := min 255 (r.age + 1) } else r := by
  simp only [State.ageRow, State.isPeer, Bool.and_eq_true, bne_iff_ne]

/-- A row becomes LOST by its ageing where it is a member's, and was not LOST before (R68). -/
theorem becomesLost_iff {r : Row} : s.becomesLost r = true ↔
    (r.station ≠ s.own ∧ r.group = s.ownGroup) ∧ r.report.isSome = true ∧ s.presence r ≠ .lost ∧
      2 < min 255 (r.age + 1) ∧ s.params.lostLimit ≤ min 255 (r.age + 1) := by
  simp only [State.becomesLost, State.isMember, State.isPeer, Bool.and_eq_true, bne_iff_ne, beq_iff_eq]
  rw [and_assoc, and_congr_right_iff]
  rintro ⟨peer, -⟩
  rw [ageRow_eq]
  by_cases shown : r.report.isSome = true
  · rw [if_pos ⟨peer, shown⟩, presence_peer (r := { r with age := min 255 (r.age + 1) }) peer, peerPresence_lost_iff]
    exact ⟨fun ⟨fresh, lost⟩ => ⟨lost.1, fresh, lost.2⟩, fun ⟨shown, fresh, lost⟩ => ⟨fresh, shown, lost⟩⟩
  · rw [if_neg fun h => shown h.2]
    exact ⟨fun h => absurd h.2 h.1, fun h => absurd h.1 shown⟩

theorem mem_lostDue {n : Nat} : n ∈ (agePeers s).peers.lostDue ↔
    s.seq.state.inFlight = true ∧ ∃ r ∈ s.members, r.station = n ∧ r.report.isSome = true ∧
      s.presence r ≠ .lost ∧ 2 < min 255 (r.age + 1) ∧ s.params.lostLimit ≤ min 255 (r.age + 1) := by
  show n ∈ (if s.seq.state.inFlight then _ else _) ↔ _
  split
  next flight =>
    rw [List.mem_map]
    simp only [List.mem_filter, becomesLost_iff, mem_members, flight, true_and]
    exact ⟨fun ⟨r, ⟨row, member, lost⟩, station⟩ => ⟨r, ⟨row, member⟩, station, lost⟩,
      fun ⟨r, ⟨row, member⟩, station, lost⟩ => ⟨r, ⟨row, member, lost⟩, station⟩⟩
  next flight => exact ⟨(nomatch ·), fun h => absurd h.1 flight⟩

/-- The cycle start reaches every block as the statements say it. -/
theorem cycleStart_started (s : State) : s.cycleStarted (cycleStart s) := by
  let s₁ := s.withLen { s.len with reading := true }
  let s₂ := latchTension s₁
  let s₃ := agePeers s₂
  let s₄ := tickPrime s₃
  let s₅ := tickStop s₄
  let s₆ := tickBrake s₅
  let s₇ := tickEnable s₆
  have o₂ : s.changesOnly [.len, .tens] s₂ := (withLen_only s _).next (latchTension_only _)
  have o₃ : s.changesOnly [.len, .tens, .peers] s₃ := o₂.next (agePeers_only _)
  have o₄ : s.changesOnly [.len, .tens, .peers, .seq] s₄ := o₃.next (tickPrime_only _)
  have o₅ : s.changesOnly [.len, .tens, .peers, .seq, .stop] s₅ := o₄.next (tickStop_only _)
  have o₆ : s.changesOnly [.len, .tens, .peers, .seq, .stop, .loop] s₆ := o₅.next (tickBrake_only _)
  have o₇ : s.changesOnly [.len, .tens, .peers, .seq, .stop, .loop, .gov] s₇ := o₆.next (withGov_only _ _)
  have last : s₇.changesOnly [.loader] (cycleStart s) := tickListen_only s₇
  have after₆ : s₆.changesOnly [.gov, .loader] (cycleStart s) := (withGov_only s₆ _).next last
  have after₅ : s₅.changesOnly [.loop, .gov, .loader] (cycleStart s) := (tickBrake_only s₅).next after₆
  have after₄ : s₄.changesOnly [.stop, .loop, .gov, .loader] (cycleStart s) := (tickStop_only s₄).next after₅
  have after₃ : s₃.changesOnly [.seq, .stop, .loop, .gov, .loader] (cycleStart s) := (tickPrime_only s₃).next after₄
  have after₂ : s₂.changesOnly [.peers, .seq, .stop, .loop, .gov, .loader] (cycleStart s) :=
    (agePeers_only s₂).next after₃
  have after₁ : s₁.changesOnly [.tens, .peers, .seq, .stop, .loop, .gov, .loader] (cycleStart s) :=
    (latchTension_only s₁).next after₂
  unfold State.cycleStarted
  refine ⟨after₁.len, ?_, ?_, fun n => ?_, ?_, ?_, ?_, ?_, ?_, (cycleStart_leaves s).mono⟩
  · rw [after₂.tens, latchTension_tens, tensionOf_eq]; rfl
  · rw [after₃.peers, ← o₂.peers]
    show s₂.peers.rows.map s₂.ageRow = _
    refine List.map_congr_left fun r _ => ?_
    rw [ageRow_eq]
    have own : s₂.own = s.own := congrArg Params.station o₂.params
    simp only [own]
  · rw [after₃.peers, mem_lostDue]
    unfold State.members State.presence State.isMember State.isPeer State.ownGroup State.groupOf State.own
    rw [o₂.seq, o₂.params, o₂.peers]
  · rw [after₄.seq, tickPrime_seq, o₃.seq]
  · rw [after₅.stop, tickStop_stop, o₄.stop, tickPrime_state, o₃.seq]
  · rw [after₆.loop, tickBrake_loop, o₅.loop]
  · rw [last.gov]
    show { s₆.gov with enableAge := min 255 (s₆.gov.enableAge + 1) } = _
    rw [o₆.gov]
  · rw [show cycleStart s = tickListen s₇ from rfl, tickListen_loader, o₇.loader]

/-! ### A cycle start that sets the count (R47, R49) -/

theorem withdraw_clock (c : CycleClock) (s : State) :
    (withdrawMark s).withClock c = (s.withLink s.markWithdrawn).withClock c := by
  unfold withdrawMark State.markWithdrawn
  split <;> rfl

theorem withdrawMark_clock (s : State) : (withdrawMark s).clock = { s.clock with markRequested := false } := by
  unfold withdrawMark
  split
  next => rfl
  next h => rw [Bool.not_eq_true] at h; rw [← h]

/-- An attempt that begins after the cycle start is the Link Port's alone. -/
theorem State.cycleStarted.withLink (h : s.cycleStarted t) (x : LinkPort) : s.cycleStarted (t.withLink x) := by
  obtain ⟨len, tens, rows, lost, seq, stop, loop, gov, loader, changes⟩ := h
  exact ⟨len, tens, rows, lost, seq, stop, loop, gov, loader, changes.next (withLink_only t x)⟩

/-- The clock of a cycle start (R47, R49). -/
def CycleClock.started (c : CycleClock) (count : Word16) (unsync : Bool) : CycleClock :=
  { c with count := count, unsync := unsync, markRequested := false, timer := 0 }

theorem startCycle_eq (count : Word16) (unsync : Bool) (s : State) : startCycle count unsync s =
    cycleStart ((s.withLink s.markWithdrawn).withClock (s.clock.started count unsync)) := by
  unfold startCycle
  dsimp only
  rw [withdraw_clock, withdrawMark_clock]
  rfl

/-- A cycle start as the statements say it: the clock, the withdrawn MARK, and every block. -/
theorem startCycle_started (count : Word16) (unsync : Bool) (s : State) :
    (startCycle count unsync s).clock = s.clock.started count unsync ∧
      (startCycle count unsync s).link = s.markWithdrawn ∧ s.cycleStarted (startCycle count unsync s) := by
  let u : State := (s.withLink s.markWithdrawn).withClock (s.clock.started count unsync)
  obtain ⟨len, tens, rows, lost, seq, stop, loop, gov, loader, -⟩ := cycleStart_started u
  have only := cycleStart_leaves u
  have changes := startCycle_only s count unsync
  rw [startCycle_eq] at changes ⊢
  exact ⟨only.clock, only.link, len, tens, rows, lost, seq, stop, loop, gov, loader, changes⟩

theorem takeMark_cycle (carried : Word16) (running : s.clock.running = true) (late : 3000 ≤ s.clock.timer) :
    takeMark carried s = startCycle carried false s :=
  if_pos (by rw [running, Bool.true_and, decide_eq_true_iff]; exact late)

theorem takeMark_early (carried : Word16) (early : s.clock.timer < 3000) : takeMark carried s = s :=
  if_neg (by rw [Bool.and_eq_true, decide_eq_true_iff]; exact fun h => absurd h.2 (Nat.not_le.mpr early))

/-- The chip clocks until a running timer stands at a time bring it there. -/
theorem elapse_clocksUntil {us : Nat} (running : s.clock.running = true) (timer : s.clock.timer ≤ us)
    (limit : us ≤ 6000) (div : s.clock.clkDiv < 25) : (elapse (s.clocksUntil us) s).clock.timer = us := by
  have elapsed : s.elapsedUs (s.clocksUntil us) = us - s.clock.timer := by
    unfold State.elapsedUs State.clocksUntil clocksPerMicrosecond
    split <;> omega
  show (if s.clock.running then min cycleExpiry (s.clock.timer + s.elapsedUs (s.clocksUntil us)) else _) = us
  rw [if_pos running, elapsed]
  unfold cycleExpiry
  omega

theorem freeRunWork_running (running : s.clock.running = true) : freeRunWork s =
    startCycle (s.clock.count + 1#16) true (elapse (s.clocksUntil 6000) s) := if_pos running

/-- Settles O34. -/
theorem freeRunningStartReachesEveryBlock : Obligations.FreeRunningStartReachesEveryBlock := by
  unfold Obligations.FreeRunningStartReachesEveryBlock
  intro s quiet running timer div
  let u := elapse (s.clocksUntil 6000) s
  obtain ⟨clock, link, started⟩ := startCycle_started (s.clock.count + 1#16) true u
  obtain ⟨x, hx⟩ := beginAttempt_eq_withLink (freeRunWork s)
  have begun : freeRunWork s = startCycle (s.clock.count + 1#16) true u := freeRunWork_running running
  refine ⟨u, beginAttempt (freeRunWork s), rfl, elapse_clocksUntil running timer (Nat.le_refl _) div,
    external_of_quiet freeRunWork quiet, ?_, fun busy => ?_, ?_⟩
  · rw [hx, begun]; exact clock
  · have line : (freeRunWork s).link = s.markWithdrawn := by rw [begun, link]; rfl
    rw [beginAttempt_busy (by rw [line]; unfold State.markWithdrawn; split <;> exact busy), line]
  · rw [hx, begun]; exact started.withLink x

/-! ### A MARK received, and the own one sent (R37, R46 to R48) -/

theorem keeps_mark {sender : BitVec 4} (hi lo : Byte) (h : s.roleOf sender.toNat ≠ .noRole) :
    s.keeps kindMark sender [hi, lo] = true := by
  have role : (s.roleOf sender.toNat != .noRole) = true := bne_iff_ne.mpr h
  simp only [State.keeps, role]; rfl

theorem delivers_mark (h : s.seq.state.operating = true ∨ (s.seq.state = .start ∧ s.loader.progress = .listen)) :
    s.delivers kindMark = true := by
  unfold State.delivers
  rcases h with h | ⟨state, progress⟩
  · rw [h]; rfl
  · rw [state, progress]; rfl

/-- A frame that the filter keeps and the station state lets through goes to its owner (R39, R40). -/
theorem acceptReceived_delivered {kind sender : BitVec 4} {body : List Byte}
    (other : ¬ (s.seq.state.operating = true ∧ sender.toNat = s.own)) (keeps : s.keeps kind sender body = true)
    (delivers : s.delivers kind = true) : acceptReceived kind sender body s = deliver kind sender body s := by
  unfold acceptReceived
  rw [if_neg (by rw [Bool.and_eq_true, beq_iff_eq]; exact other), if_pos (by rw [keeps, delivers]; rfl)]

/-- The work of a received MARK with the microseconds before it. -/
def markAfter (dt : Nat) (sender : BitVec 4) (body : List Byte) (s : State) : State :=
  receiveFrame kindMark sender body (elapseUs dt s)

theorem exec_markFrame (dt : Nat) (sender : BitVec 4) (body : List Byte) (quiet : s.quiet = true) :
    exec (.markFrame dt sender body) s = .next (beginAttempt (receiveFrame kindMark sender body (elapseUs dt s))) :=
  external_of_quiet (markAfter dt sender body) quiet

theorem markWithdrawn_frameOver (dt : Nat) (s : State) : (elapseUs dt s).frameOver.markWithdrawn =
    { s.markWithdrawn with line := .busy, assembling := false } := by
  have requested : (elapseUs dt s).frameOver.clock.markRequested = s.clock.markRequested := rfl
  unfold State.markWithdrawn
  rw [requested]
  split <;> rfl

/-- The own frame, as it stands on the line, read back by the own receive assembly. -/
theorem checkFrame_buildFrame (kind sender : BitVec 4) {body : List Byte} (h : body.length ≤ 24) :
    checkFrame (buildFrame kind sender body) = some (kind, sender, body) := (checkFrame_eq h _).trans (if_pos rfl)

theorem carriedCount_markBody (carried : Word16) : carriedCount (markBody carried) = carried := ofNat_field2 carried

theorem acceptOwn_mark (carried : Word16) (sender : BitVec 4) (s : State) :
    acceptOwn (buildFrame kindMark sender (markBody carried)) s =
      if s.keeps kindMark sender (markBody carried) = true ∧ s.seq.state.operating = true then takeMark carried s
      else s := by
  unfold acceptOwn
  rw [checkFrame_buildFrame kindMark sender (body := markBody carried) (by simp [markBody, bytes2])]
  dsimp only
  rw [carriedCount_markBody]
  simp only [decide_true, Bool.true_and, Bool.and_eq_true]

theorem ownNibble_toNat (h : s.own ≤ 15) : s.ownNibble.toNat = s.own := by
  unfold State.ownNibble; rw [BitVec.toNat_ofNat]; omega

/-- The Link Port when the slot `k` that has sent its frame stands as `x`. -/
def State.frameGone (k : SlotKind) (x : Slot) (s : State) : State := endReception (endAttempt k x s)

theorem frameSentWork_mark (h : s.link.attempting = some .mark) :
    frameSentWork s = acceptOwn s.link.txFrame (s.frameGone .mark s.link.markSlot.afterSent) := by
  unfold frameSentWork
  rw [h]
  rfl

theorem afterSent_unrenewed {x : Slot} (h : x.renewed = none) : x.afterSent = {} := by
  unfold Slot.afterSent; rw [h]; split <;> rfl

theorem afterSent_eq (x : Slot) : x.afterSent =
    if x.withdrawn = false ∧ x.renewed.isSome = true then { st := .pending, body := x.renewed.getD [] } else {} := by
  unfold Slot.afterSent
  cases x.withdrawn <;> cases x.renewed <;> rfl

/-- Settles O35. -/
theorem markAtThreeThousandStartsACycle : Obligations.MarkAtThreeThousandStartsACycle := by
  unfold Obligations.MarkAtThreeThousandStartsACycle
  refine ⟨fun dt sender hi lo s quiet assembling running role place late => ?_,
    fun carried s quiet operating number role attempting renewed frame running late => ?_⟩
  · let u := elapseUs dt s
    have progress : u.loader.progress = s.loader.progress := elapse_progress _ s
    have other : ¬ (u.frameOver.seq.state.operating = true ∧ sender.toNat = u.frameOver.own) := by
      rintro ⟨operating, own⟩
      rcases place with ⟨-, other⟩ | ⟨start, -⟩
      · exact other own
      · have : s.seq.state.operating = true := operating
        rw [start] at this; cases this
    have delivers : u.frameOver.delivers kindMark = true :=
      delivers_mark (place.imp And.left fun h => ⟨h.1, progress.trans h.2⟩)
    have work : receiveFrame kindMark sender [hi, lo] u =
        startCycle (BitVec.ofNat 16 (hi.toNat * 256 + lo.toNat)) false u.frameOver :=
      (receiveFrame_accepted kindMark sender (s := u) assembling rfl).trans <|
        (acceptReceived_delivered (s := u.frameOver) other (keeps_mark (s := u.frameOver) hi lo role) delivers).trans <|
          takeMark_cycle (s := u.frameOver) _ running late
    obtain ⟨clock, link, len, tens, rows, lost, seq, stop, loop, gov, loader, -⟩ :=
      startCycle_started (BitVec.ofNat 16 (hi.toNat * 256 + lo.toNat)) false u.frameOver
    have link := link.trans (markWithdrawn_frameOver dt s)
    refine ⟨u, receiveFrame kindMark sender [hi, lo] u, rfl, ?_, ?_⟩
    · rw [exec_markFrame dt sender [hi, lo] quiet, beginAttempt_busy]
      rw [show elapseUs dt s = u from rfl, work, link]
    · rw [work]
      exact ⟨clock, link, len, tens, rows, lost, seq, stop, loop, gov, loader,
        (frameOver_only u).next (startCycle_only _ _ _)⟩
  · let w := s.frameGone .mark {}
    have kept : w.keeps kindMark s.ownNibble (markBody carried) = true :=
      keeps_mark (s := w) _ _ (by rw [ownNibble_toNat number, show w.roleOf s.own = .winch from role]; decide)
    have work : frameSentWork s = startCycle carried false w := by
      rw [frameSentWork_mark attempting, afterSent_unrenewed renewed, frame, acceptOwn_mark]
      exact (if_pos ⟨kept, operating⟩).trans (takeMark_cycle (s := w) carried running late)
    obtain ⟨clock, link, len, tens, rows, lost, seq, stop, loop, gov, loader, -⟩ := startCycle_started carried false w
    have link : (startCycle carried false w).link =
        { s.link with markSlot := {}, txFrame := [], line := .busy, assembling := false } := by
      rw [link]; unfold State.markWithdrawn; split <;> rfl
    refine ⟨frameSentWork s, ?_, ?_⟩
    · have line : (frameSentWork s).link.line = .busy := by rw [work, link]
      exact (external_of_quiet frameSentWork quiet).trans (by rw [beginAttempt_busy line])
    · rw [work]
      have only : s.changesOnly [.link] w := (endAttempt_only s _ _).next (endReception_only _)
      exact ⟨clock, link, len, tens, rows, lost, seq, stop, loop, gov, loader, only.next (startCycle_only _ _ _)⟩

/-- Settles O36. -/
theorem earlyMarkIsIgnored : Obligations.EarlyMarkIsIgnored := by
  unfold Obligations.EarlyMarkIsIgnored
  refine ⟨fun dt sender body s quiet assembling length other early => ?_,
    fun carried s quiet operating attempting frame early => ?_⟩
  · let u := elapseUs dt s
    have ignored : acceptReceived kindMark sender body u.frameOver = u.frameOver := by
      unfold acceptReceived
      rw [if_neg (by rw [Bool.and_eq_true, beq_iff_eq]; exact other)]
      split
      · exact takeMark_early (s := u.frameOver) _ early
      · rfl
    have work : receiveFrame kindMark sender body u = u.frameOver :=
      (receiveFrame_accepted kindMark sender (s := u) assembling (decide_eq_true length)).trans ignored
    rw [exec_markFrame dt sender body quiet, work, beginAttempt_busy (s := u.frameOver) rfl]
  · let w := s.frameGone .mark s.link.markSlot.afterSent
    have work : frameSentWork s = w := by
      rw [frameSentWork_mark attempting, frame, acceptOwn_mark]
      split
      · exact takeMark_early (s := w) carried early
      · rfl
    refine ⟨w, ?_, rfl, (endAttempt_only s _ _).next (endReception_only _), ?_⟩
    · exact (external_of_quiet frameSentWork quiet).trans (by rw [work, beginAttempt_busy (s := w) rfl])
    · rw [← afterSent_eq]; rfl

/-! ### The own MARK falls due (R44, R45) -/

/-- Settles O37. -/
theorem markIsRequestedWhenDue : Obligations.MarkIsRequestedWhenDue := by
  unfold Obligations.MarkIsRequestedWhenDue
  intro s quiet number div
  have run : exec .markDue s = .next (beginAttempt (markDueWork s)) := external_of_quiet markDueWork quiet
  refine ⟨fun operating running clear timer empty free => ?_, fun off => ?_, fun requested => ?_⟩
  · let u := elapse (s.clocksUntil (4000 + 20 * s.own)) s
    let w : State := (u.withLink { s.link with markSlot := { st := .pending } }).withClock
      { u.clock with markRequested := true }
    have requested : s.link.markSlot.request [] = { st := .pending } := by rw [empty]; rfl
    have work : markDueWork s = w := by
      refine (if_pos (mayRequestMark_iff.mpr ⟨operating, running, clear⟩)).trans ?_
      show ((u.withLink { s.link with markSlot := s.link.markSlot.request [] }).withClock _) = w
      rw [requested]; rfl
    have due : u.clock.timer = 4000 + 20 * s.own :=
      elapse_clocksUntil running timer (by omega) div
    obtain ⟨x, hx⟩ := beginAttempt_eq_withLink w
    refine ⟨u, beginAttempt w, rfl, due, by rw [run, work], by rw [hx]; rfl, fun busy => ?_, fun idle still => ?_, ?_⟩
    · rw [beginAttempt_busy (s := w) busy]; rfl
    · have stops : w.link.stopSlot.st ≠ .inAttempt := attempting_eq_none_iff.mp free .stop
      have reports : w.link.reportSlot.st ≠ .inAttempt := attempting_eq_none_iff.mp free .report
      have may : w.mayAttempt = true := by
        have none : w.link.attempting = none :=
          attempting_eq_none_iff.mpr fun k => by
            cases k
            · exact stops
            · exact (nomatch ·)
            · exact reports
        unfold State.mayAttempt
        rw [none, show w.seq.state.operating = true from operating, show w.link.line = .idle from idle]; rfl
      have next : w.link.nextPending = some .mark := (if_neg still).trans (if_pos rfl)
      rw [beginAttempt_some may next]; rfl
    · exact ((withLink_only u _).next (withClock_only _ _) (l := [.link, .clock])).next (beginAttempt_only _)
  · have work : markDueWork s = s := if_neg (by rw [mayRequestMark_iff, off]; exact fun h => nomatch h.1)
    rw [run, work, beginAttempt_idle off]
  · have work : markDueWork s = s := if_neg (by rw [mayRequestMark_iff, requested]; exact fun h => nomatch h.2.2)
    exact ⟨beginAttempt s, by rw [run, work], beginAttempt_only s⟩

end Sys2Proof.Machine
end

section
/-!
SUPPORT. The line, the ends of an attempt, and what reaches no owner (chapter 2).
-/

namespace Sys2Proof.Machine

set_option Elab.async false

variable {s t : State}

/-! ### The line (R24, R28, R36) -/

theorem exec_lineIdle (quiet : s.quiet = true) : exec .lineIdle s = .next (beginAttempt (lineIdleWork s)) :=
  external_of_quiet lineIdleWork quiet

theorem exec_lineBusy (quiet : s.quiet = true) : exec .lineBusy s = .next (beginAttempt (lineBusyWork s)) :=
  external_of_quiet lineBusyWork quiet

theorem exec_frameDiscard (why : DiscardCause) (quiet : s.quiet = true) :
    exec (.frameDiscard why) s = .next (beginAttempt (frameDiscardWork why s)) :=
  external_of_quiet (frameDiscardWork why) quiet

/-- The state in which the line has become IDLE, before an attempt begins (R24, R36). -/
def State.lineFree (s : State) : State := s.withLink { s.link with line := .idle, assembling := false }

/-- Settles O42. -/
theorem startBitsAndDiscards : Obligations.StartBitsAndDiscards := by
  unfold Obligations.StartBitsAndDiscards
  intro s quiet
  refine ⟨fun idle => ?_, fun busy => ?_, fun why late assembling => ?_, fun assembling free => ?_,
    fun driving busy => ?_, fun why none busy => ?_⟩
  · have work : lineBusyWork s = s.withLink { s.link with line := .busy, assembling := true } := if_pos idle
    rw [exec_lineBusy quiet, work, beginAttempt_busy]; rfl
  · have work : lineBusyWork s = s := if_neg (by rw [busy]; decide)
    rw [exec_lineBusy quiet, work, beginAttempt_busy busy]
  · rw [exec_frameDiscard why quiet, frameDiscardWork_busy assembling late, endReception_eq,
      beginAttempt_busy (s := s.frameOver) rfl]
  · rw [exec_frameDiscard _ quiet, frameDiscardWork_earlyIdle assembling, exec_lineIdle quiet]
    refine ⟨rfl, _, rfl, (lineIdleWork_only s).next (beginAttempt_only _), fun still => ?_⟩
    rw [lineIdleWork_free free]
    rcases still with empty | off
    · exact beginAttempt_empty (s := s.lineFree) empty
    · exact beginAttempt_idle (s := s.lineFree) off
  · have idle : lineIdleWork s = s := lineIdleWork_attempting driving
    have discard : frameDiscardWork .earlyIdle s = s := by
      cases h : s.link.assembling
      · exact frameDiscardWork_none _ h
      · rw [frameDiscardWork_earlyIdle h, idle]
    exact ⟨by rw [exec_frameDiscard _ quiet, discard, beginAttempt_busy busy],
      by rw [exec_lineIdle quiet, idle, beginAttempt_busy busy]⟩
  · rw [exec_frameDiscard why quiet, frameDiscardWork_none why none, beginAttempt_busy busy]

/-- Settles O43: the slot of the lowest header is the first that is PENDING. -/
theorem idleLineBeginsTheLowestHeader : Obligations.IdleLineBeginsTheLowestHeader := by
  unfold Obligations.IdleLineBeginsTheLowestHeader
  intro s quiet free idle attempt
  have run : exec .lineIdle s = .next (beginAttempt s.lineFree) := by
    rw [exec_lineIdle quiet, lineIdleWork_free free]; rfl
  have may (operating : s.seq.state.operating = true) : s.lineFree.mayAttempt = true := by
    unfold State.mayAttempt
    rw [show s.lineFree.link.attempting = none from free, show s.lineFree.seq.state.operating = true from operating]
    rfl
  have begins {k : SlotKind} (operating : s.seq.state.operating = true) (next : s.link.nextPending = some k) :
      exec .lineIdle s = .next (s.lineFree.withLink (s.lineFree.attemptOn k)) := by
    rw [run, beginAttempt_some (may operating) next]
  have none {x : Slot} (h : x.st = .empty) : ¬ x.st = .pending := by rw [h]; decide
  refine ⟨fun still => ?_, fun operating stop => ?_, fun operating stop mark => ?_,
    fun operating stop mark report => ?_⟩
  · rw [run]
    rcases still with off | ⟨stop, mark, report⟩
    · rw [beginAttempt_idle (s := s.lineFree) off]; rfl
    · have empty : s.lineFree.link.nextPending = Option.none :=
        (if_neg (none stop)).trans ((if_neg (none mark)).trans (if_neg (none report)))
      rw [beginAttempt_empty empty]; rfl
  · exact begins operating (if_pos stop)
  · exact begins operating ((if_neg (none stop)).trans (if_pos mark))
  · exact begins operating ((if_neg (none stop)).trans ((if_neg (none mark)).trans (if_pos report)))

/-! ### The ends of an attempt (R29 to R34) -/

theorem exec_transmitError (quiet : s.quiet = true) :
    exec .transmitError s = .next (beginAttempt (transmitErrorWork s)) := external_of_quiet transmitErrorWork quiet

theorem exec_frameSent (quiet : s.quiet = true) :
    exec .frameSent s = .next (beginAttempt (frameSentWork s)) := external_of_quiet frameSentWork quiet

theorem arbitrationLossWork_some {k : SlotKind} (h : s.link.attempting = some k) :
    arbitrationLossWork s = endAttempt k (s.link.slot k).afterLoss s := by
  unfold arbitrationLossWork; rw [h]

theorem transmitErrorWork_some {k : SlotKind} (h : s.link.attempting = some k) :
    transmitErrorWork s = reportStopEmpty k (s.link.slot k).afterError
      (if (s.link.slot k).mutes then takeCause .linkMute s.own (endAttempt k (s.link.slot k).afterError s)
      else endAttempt k (s.link.slot k).afterError s) := by
  unfold transmitErrorWork; rw [h]

theorem frameSentWork_some {k : SlotKind} (h : s.link.attempting = some k) : frameSentWork s =
    acceptOwn s.link.txFrame (reportStopEmpty k (s.link.slot k).afterSent (s.frameGone k (s.link.slot k).afterSent)) := by
  unfold frameSentWork; rw [h]; rfl

theorem reportStopEmpty_keeps {k : SlotKind} {x : Slot}
    (h : k = .stop → x.st = .empty → s.stop.lockPending = false) : reportStopEmpty k x s = s :=
  if_neg fun ⟨stop, empty, lock⟩ => nomatch (h stop empty).symm.trans lock

theorem reportStopEmpty_locks {x : Slot} (empty : x.st = .empty) (lock : s.stop.lockPending = true) :
    reportStopEmpty .stop x s = enterLocked s := if_pos ⟨rfl, empty, lock⟩

/-- An own frame that is no MARK has no effect beyond its end (R37). -/
theorem acceptOwn_other {kind : BitVec 4} (sender : BitVec 4) {body : List Byte} (h : body.length ≤ 24)
    (other : kind ≠ kindMark) : acceptOwn (buildFrame kind sender body) s = s := by
  unfold acceptOwn
  rw [checkFrame_buildFrame kind sender h]
  exact if_neg (by rw [decide_eq_false other]; exact (nomatch ·))

theorem endAttempt_line (k : SlotKind) (x : Slot) (s : State) : (endAttempt k x s).link.line = s.link.line := by
  cases k <;> rfl

theorem mutes_iff {x : Slot} : x.mutes = true ↔ x.withdrawn = false ∧ 2 ≤ x.attempts := by
  unfold Slot.mutes
  rw [Bool.and_eq_true, Bool.not_eq_true', Bool.not_eq_true', decide_eq_false_iff_not]
  exact and_congr_right fun _ => by omega

theorem SlotKind.kind_ne_mark {k : SlotKind} (h : k ≠ .mark) : k.kind ≠ kindMark := by
  cases k with
  | stop | report => decide
  | mark => exact absurd rfl h

/-- Settles O44. -/
theorem attemptEndsAsTable23 : Obligations.AttemptEndsAsTable23 := by
  unfold Obligations.AttemptEndsAsTable23
  intro k s quiet attempting busy x ended
  have gone (y : Slot) : beginAttempt (endAttempt k y s) = s.withLink (ended y) :=
    beginAttempt_busy ((endAttempt_line k y s).trans busy)
  refine ⟨?_, fun kept few => ?_, fun withdrawn mark => ?_, fun body other kept length frame still => ?_⟩
  · exact (external_of_quiet arbitrationLossWork quiet).trans
      (by rw [arbitrationLossWork_some attempting, gone]; rfl)
  · let y : Slot := { st := .pending, body := x.renewed.getD x.body, attempts := x.attempts + 1 }
    have again : x.afterError = y := by
      unfold Slot.afterError; rw [kept]; exact (if_neg (by decide)).trans (if_pos (by omega))
    have unempty : k = .stop → y.st = .empty → (endAttempt k y s).stop.lockPending = false := fun _ => (nomatch ·)
    have quietly : ¬ x.mutes = true := fun h => absurd (mutes_iff.mp h).2 (Nat.not_le.mpr few)
    rw [exec_transmitError quiet, transmitErrorWork_some attempting, if_neg quietly, again,
      reportStopEmpty_keeps unempty, gone]
  · have empty : x.afterError = {} := if_pos withdrawn
    have quietly : ¬ x.mutes = true := fun h => nomatch (mutes_iff.mp h).1.symm.trans withdrawn
    rw [exec_transmitError quiet, transmitErrorWork_some attempting, if_neg quietly, empty,
      reportStopEmpty_keeps (fun stop => by rw [mark] at stop; cases stop), gone]
  · have sent : x.afterSent = if x.renewed.isSome = true then { st := .pending, body := x.renewed.getD [] } else {} := by
      rw [afterSent_eq, kept]; simp only [true_and]
    have unlocked : reportStopEmpty k x.afterSent (s.frameGone k x.afterSent) = s.frameGone k x.afterSent := by
      refine reportStopEmpty_keeps fun stop empty => Bool.eq_false_iff.mpr fun lock => still ⟨stop, ?_, lock⟩
      cases renewed : x.renewed with
      | none => rfl
      | some body => rw [sent, renewed] at empty; cases empty
    rw [exec_frameSent quiet, frameSentWork_some attempting, frame,
      acceptOwn_other _ length (SlotKind.kind_ne_mark other), unlocked, sent,
      beginAttempt_busy (s := s.frameGone k _) rfl]
    rfl

/-! ### The third transmit error (R31, R151) -/

/-- No cause touches a pending lock. -/
theorem takeCause_lock (c : FaultCode) (src : Nat) (s : State) :
    (takeCause c src s).stop.lockPending = s.stop.lockPending ∧
      (takeCause c src s).stop.lockCause = s.stop.lockCause := by
  refine takeCause_induction
    (P := fun t => t.stop.lockPending = s.stop.lockPending ∧ t.stop.lockCause = s.stop.lockCause)
    (fun _ h => h) c src (fun _ => ⟨rfl, rfl⟩) fun _ made => ?_
  have recorded := And.intro (record_lockPending (x := s.stop) (c := c) (src := src))
    (record_lockCause (x := s.stop) (c := c) (src := src))
  cases made with
  | inForce | brakeStands | ramps => exact recorded
  | drops =>
    show (dropped _).stop.lockPending = _ ∧ (dropped _).stop.lockCause = _
    rw [dropped_stop]; exact recorded
  | holds =>
    show (assisted _).stop.lockPending = _ ∧ (assisted _).stop.lockCause = _
    rw [assisted_stop]; exact recorded

theorem requestSlot_line (k : SlotKind) (body : List Byte) (s : State) :
    (requestSlot k body s).link.line = s.link.line := by cases k <;> rfl

theorem takeCause_line (c : FaultCode) (src : Nat) (s : State) :
    (takeCause c src s).link.line = s.link.line := by
  cases ho : s.seq.state.operating
  · rw [takeCause_idle c src ho]
  · rcases takeCause_eq_or c src ho with h | h <;> rw [h]
    · rw [(intake_only s c src).link]
    · rw [requestSlot_line, (intake_only s c src).link]

theorem afterError_third {x : Slot} (h : x.attempts = 2) : x.afterError = {} := by
  unfold Slot.afterError
  split
  · rfl
  · exact if_neg (by omega)

/-- Settles O45. -/
theorem thirdErrorMutesTheSlot : Obligations.ThirdErrorMutesTheSlot := by
  unfold Obligations.ThirdErrorMutesTheSlot
  intro k s quiet attempting busy kept attempts unlocked u
  have work : transmitErrorWork s = takeCause .linkMute s.own u := by
    rw [transmitErrorWork_some attempting, if_pos (mutes_iff.mpr ⟨kept, attempts.ge⟩), afterError_third attempts]
    exact reportStopEmpty_keeps fun _ _ => (takeCause_lock _ _ _).1.trans unlocked
  have line : (takeCause .linkMute s.own u).link.line = .busy :=
    (takeCause_line _ _ _).trans ((endAttempt_line k {} s).trans busy)
  have run : exec .transmitError s = .next (takeCause .linkMute s.own u) := by
    rw [exec_transmitError quiet, work, beginAttempt_busy line]
  refine ⟨run, fun operating moving stopped empty => ⟨_, run, ?_⟩⟩
  have state : u.seq.state = .ready ∨ u.seq.state.inFlight = true := by
    show s.seq.state = .ready ∨ s.seq.state.inFlight = true
    cases hs : s.seq.state with
    | ready => exact .inl rfl
    | primed | flying | parking => exact .inr rfl
    | stopping => exact absurd hs moving
    | stopped => exact absurd hs stopped
    | start | locked => rw [hs] at operating; cases operating
  obtain ⟨first, -, frame, only, controlled, -⟩ := takeCause_opens (s := u) (c := .linkMute) (src := s.own) state empty
  obtain ⟨category, -, loop, creep, ready, moving⟩ := controlled rfl
  refine ⟨first, category, ?_, frame.1 rfl, fun b hb => ?_⟩
  · split
    next h => rw [ready h]
    next h => rw [(moving h).1]
  · cases b with
    | loop => exact loop
    | creep => exact creep
    | link | seq | stop => exact absurd (by decide) hb
    | _ => exact only _ (by decide)

end Sys2Proof.Machine
end

section
/-!
SUPPORT. Received frames: the duplicate number, the frames that reach no owner, and the REPORT (chapters 2 and 4).
-/

namespace Sys2Proof.Machine

set_option Elab.async false

variable {s t : State}

/-! ### A frame taken in (R36 to R40) -/

/-- The state before a received frame: a MARK's command lets its microseconds pass, here none. -/
def State.beforeFrame (s : State) (kind : BitVec 4) : State := if kind = kindMark then elapseUs 0 s else s

theorem exec_frameCommand (kind sender : BitVec 4) {body : List Byte} (quiet : s.quiet = true)
    (assembling : s.link.assembling = true) (length : body.length ≤ 24) :
    exec (frameCommand kind sender body) s =
      .next (beginAttempt (acceptReceived kind sender body (s.beforeFrame kind).frameOver)) := by
  have fits : bodyFits body = true := decide_eq_true length
  have taken (u : State) (h : u.link.assembling = true) :
      receiveFrame kind sender body u = acceptReceived kind sender body u.frameOver :=
    receiveFrame_accepted kind sender h fits
  have plain : kind ≠ kindMark → external (receiveFrame kind sender body) s =
      .next (beginAttempt (acceptReceived kind sender body (s.beforeFrame kind).frameOver)) := fun other => by
    rw [external_of_quiet _ quiet, taken s assembling, State.beforeFrame, if_neg other]
  unfold frameCommand
  split
  next h => subst h; exact plain (by decide)
  next =>
  split
  next h =>
    subst h
    rw [exec_markFrame 0 sender body quiet, taken (elapseUs 0 s) assembling]; rfl
  next mark =>
  split
  next h => subst h; exact plain (by decide)
  next =>
  split
  next h => subst h; exact plain (by decide)
  next =>
  split
  next h => subst h; exact plain (by decide)
  next =>
  split
  next h => subst h; exact plain (by decide)
  next => exact plain mark

theorem beforeFrame_record (kind : BitVec 4) (hr : s.recordFits) : (s.beforeFrame kind).frameOver.recordFits := by
  have record : (elapseUs 0 s).recordFits := State.recordFits.op (.elapse s _) hr
  unfold State.beforeFrame
  split
  · exact record
  · exact hr

theorem beforeFrame_outputs (kind : BitVec 4) (hfit : s.outputsFit) :
    (s.beforeFrame kind).frameOver.outputsFit := by
  unfold State.beforeFrame
  split
  · exact hfit.elapse _
  · exact hfit

/-- What the passing of no time leaves of the state before a received frame. -/
theorem beforeFrame_same (kind : BitVec 4) (s : State) : (s.beforeFrame kind).seq = s.seq ∧
    (s.beforeFrame kind).link = s.link ∧ (s.beforeFrame kind).own = s.own ∧
    (s.beforeFrame kind).stop.lockPending = s.stop.lockPending ∧
    (s.beforeFrame kind).stop.later = s.stop.later := by
  unfold State.beforeFrame
  split
  · obtain ⟨dip, on, clk, stop⟩ := elapse_stop (clocksPerMicrosecond * 0) s
    refine ⟨rfl, rfl, rfl, ?_, ?_⟩
    all_goals rw [show (elapseUs 0 s).stop = _ from stop]
  · exact ⟨rfl, rfl, rfl, rfl, rfl⟩

theorem beforeFrame_progress (kind : BitVec 4) (s : State) :
    (s.beforeFrame kind).loader.progress = s.loader.progress := by
  unfold State.beforeFrame
  split
  · exact elapse_progress _ s
  · rfl

theorem beforeFrame_roles (kind : BitVec 4) (n : Nat) (s : State) : (s.beforeFrame kind).roleOf n = s.roleOf n := by
  unfold State.beforeFrame; split <;> rfl

/-! ### The duplicate number (R38, R152) -/

theorem request_request (x : Slot) (a b : List Byte) : (x.request a).request b = x.request b := by
  cases h : x.st with
  | empty => rw [request_empty h, request_empty h]; rfl
  | pending =>
    rw [request_pending h, request_pending h, request_pending (x := { x with body := a }) h]
  | inAttempt =>
    rw [request_inAttempt h, request_inAttempt h, request_inAttempt (x := { x with renewed := some a }) h]

theorem StopMade.stopped_seq {cat : Category} (h : StopMade s cat t) (stopped : t.seq.state = .stopped) :
    t.seq = { s.seq with state := .stopped } := by
  cases h with
  | inForce => rw [← stopped]
  | brakeStands => rfl
  | ramps => cases stopped
  | drops => exact dropped_seq s
  | holds => exact assisted_seq s

/-- A first duplicate stops the station on its brake, in every operating state. -/
theorem takeCause_duplicate (operating : s.seq.state.operating = true) (hr : s.recordFits) (hfit : s.outputsFit) :
    let t := takeCause .duplicateStation s.own s
    t.seq = { s.seq with state := .stopped } ∧ t.stop.category = .immediate ∧ t.loop.drive = false ∧
      t.loop.brake = .set ∧ s.changesOnly [.seq, .loop, .creep, .stop] t := by
  intro t
  have taken : t = intake .duplicateStation s.own s := takeCause_unsent _ operating rfl
  have made := intake_made .duplicateStation s.own operating
  obtain ⟨stopped, category⟩ := hr.immediate_stops made
  have seq := made.stopped_seq stopped
  rw [← taken] at stopped category seq
  obtain ⟨brake, drive⟩ := (hfit.cause .duplicateStation s.own).stopped stopped
  have assist : t.stop.assist = false := by
    obtain ⟨⟨-, -, iff⟩, -⟩ := (recordFits_stopped stopped).mp (hr.cause _ _)
    exact Bool.eq_false_iff.mpr fun h => nomatch category.symm.trans (iff.mp h)
  exact ⟨seq, category, drive.trans assist, brake, taken ▸ (intake_only s _ _).mono⟩

theorem takeCause_stands (hs : s.seq.state = .stopped) (hi : s.stop.category = .immediate) (hr : s.recordFits)
    (c : FaultCode) (src : Nat) :
    takeCause c src s = s.withStop { s.stop with later := addLater s.stop.later c } := by
  obtain ⟨⟨hf, -⟩, -⟩ := (recordFits_stopped hs).mp hr
  obtain ⟨first, hfirst⟩ := Option.isSome_iff_exists.mp hf
  have inForce : changesCategory c.category s = false := changesCategory_inForce (.inr ⟨hs, .inr (.inl hi)⟩)
  rw [takeCause_noFrame (by rw [hs]; rfl) inForce, intake_inForce hs (.inr (.inl hi)), record_adds hfirst]

theorem acceptReceived_own {kind sender : BitVec 4} {body : List Byte} (operating : s.seq.state.operating = true)
    (own : sender.toNat = s.own) : acceptReceived kind sender body s = takeDuplicate s := by
  unfold acceptReceived
  exact if_pos (by rw [Bool.and_eq_true, beq_iff_eq]; exact ⟨operating, own⟩)

/-- LOCKED, as the statements say it (R4, R35, R53, R117, R157). -/
def State.locks (s t : State) : Prop :=
  t.seq = { s.seq with state := .locked } ∧ t.stop.first = s.stop.first ∧ t.stop.later = s.stop.later ∧
    t.stop.lockPending = false ∧ t.stop.lockCause = s.stop.lockCause ∧ t.stop.assist = false ∧
    t.loop.drive = false ∧ t.loop.brake = .set ∧ t.loop.duty = 512 ∧ t.loop.supervision = .idle ∧
    t.link.stopSlot = {} ∧ t.link.markSlot = {} ∧ t.link.reportSlot = {} ∧ t.clock.markRequested = false

theorem enterLocked_locks (s : State) : s.locks (enterLocked s) :=
  ⟨rfl, rfl, rfl, rfl, rfl, rfl, rfl, rfl, rfl, rfl, rfl, rfl, rfl, rfl⟩

/-- Settles O46. -/
theorem duplicateStopsAllAndLocks : Obligations.DuplicateStopsAllAndLocks := by
  unfold Obligations.DuplicateStopsAllAndLocks
  refine ⟨fun kind sender body s quiet assembling length operating own first hr hfit => ?_,
    fun body s quiet attempting renewed withdrawn lock frame length => ?_,
    fun s quiet attempting busy kept attempts lock hr hfit => ?_,
    fun kind sender body s quiet assembling length own lock hr => ?_⟩
  · let u := s.beforeFrame kind
    let w := u.frameOver
    have record := beforeFrame_record kind hr
    have outputs := beforeFrame_outputs kind hfit
    obtain ⟨seq, link, number, pending, -⟩ := beforeFrame_same kind s
    have running : w.seq.state.operating = true := by rw [← seq] at operating; exact operating
    obtain ⟨stopped, category, drive, brake, only⟩ := takeCause_duplicate running record outputs
    let x := takeCause .duplicateStation w.own w
    have holds : x.holdsCause .duplicateStation := takeCause_holds _ _ running
    have roster : w.own = s.own := number
    let y := requestSlot .stop (stopBody 0 16 w.own) x
    have taken : takeDuplicate w =
        y.withStop { y.stop with lockPending := true, lockCause := .duplicateStation } := by
      unfold takeDuplicate
      rw [if_neg (by rw [show w.stop.lockPending = _ from pending, first]; decide)]
      rfl
    have xlink : x.link = { s.link with line := .busy, assembling := false } := by
      rw [only.link, ← link]; rfl
    have accepted : acceptReceived kind sender body w = takeDuplicate w :=
      acceptReceived_own running (own.trans roster.symm)
    refine ⟨takeDuplicate w, ?_, ?_⟩
    · rw [exec_frameCommand kind sender quiet assembling length, accepted, beginAttempt_busy]
      rw [taken]
      show y.link.line = _
      rw [requestSlot_line, xlink]
    · rw [taken]
      refine ⟨holds, stopped.trans (by rw [show w.seq = s.seq from seq]), category, rfl, rfl, drive, brake, ?_, ?_⟩
      · show x.link.setSlot .stop (x.link.stopSlot.request (stopBody 0 16 w.own)) = _
        rw [xlink, roster]; rfl
      · exact ((((frameOver_only u).next only (l := [.link, .seq, .loop, .creep, .stop])).next
          (requestSlot_only x _ _) (l := [.link, .seq, .loop, .creep, .stop])).next (withStop_only _ _))
  · let w := s.frameGone .stop {}
    have work : frameSentWork s = enterLocked w := by
      rw [frameSentWork_some attempting, frame, acceptOwn_other _ length (by decide),
        show (s.link.slot .stop).afterSent = {} from afterSent_unrenewed renewed]
      exact reportStopEmpty_locks rfl lock
    obtain ⟨seq, first, later, pending, -, assist, drive, brake, duty, supervision, slots⟩ := enterLocked_locks w
    have only : s.changesOnly [.link] w := (endAttempt_only s _ _).next (endReception_only _)
    refine ⟨enterLocked w, ?_, seq, first, later, pending, assist, drive, brake, duty, supervision, slots.1,
      slots.2.1, slots.2.2.1, slots.2.2.2, only.next (enterLocked_only w)⟩
    rw [exec_frameSent quiet, work, beginAttempt_idle (s := enterLocked w) rfl]
  · obtain ⟨-, stopped, category⟩ := hr.2 lock
    let v : State := endAttempt .stop {} s
    let w : State := v.withStop { s.stop with later := addLater s.stop.later .linkMute }
    have mute : takeCause .linkMute s.own v = w :=
      takeCause_stands (s := v) stopped category (hr.same rfl rfl) .linkMute s.own
    have mutes : (s.link.slot .stop).mutes = true := mutes_iff.mpr ⟨kept, attempts.ge⟩
    have work : transmitErrorWork s = enterLocked w := by
      rw [transmitErrorWork_some attempting, if_pos mutes,
        show (s.link.slot .stop).afterError = {} from afterError_third attempts]
      show reportStopEmpty .stop {} (takeCause .linkMute s.own v) = _
      rw [mute]
      exact reportStopEmpty_locks (s := w) rfl lock
    obtain ⟨seq, first, later, pending, cause, assist, drive, brake, duty, supervision, slots⟩ := enterLocked_locks w
    have only : s.changesOnly [.link, .stop] w := (endAttempt_only s _ _).next (withStop_only _ _)
    refine ⟨enterLocked w, ?_, seq, first, later, pending, cause, assist, drive, brake, duty, supervision, slots.1,
      slots.2.1, slots.2.2.1, slots.2.2.2, only.next (enterLocked_only w)⟩
    rw [exec_transmitError quiet, work, beginAttempt_idle (s := enterLocked w) rfl]
  · obtain ⟨-, stopped, category⟩ := hr.2 lock
    let u := s.beforeFrame kind
    let w := u.frameOver
    obtain ⟨seq, -, number, pending, later⟩ := beforeFrame_same kind s
    have wlock : w.stop.lockPending = true := pending.trans lock
    have wstate : w.seq.state = .stopped := (congrArg Sequencer.state seq).trans stopped
    have record := beforeFrame_record kind hr
    have wcategory : w.stop.category = .immediate := record.lock_immediate wlock
    have taken : takeDuplicate w = w.withStop { w.stop with later := addLater s.stop.later .duplicateStation } := by
      unfold takeDuplicate
      rw [if_pos wlock, takeCause_stands wstate wcategory record, show w.stop.later = s.stop.later from later]
    have accepted : acceptReceived kind sender body w = takeDuplicate w :=
      acceptReceived_own (by rw [wstate]; rfl) (own.trans (show w.own = s.own from number).symm)
    show exec (frameCommand kind sender body) s =
      .next (w.withStop { w.stop with later := addLater s.stop.later .duplicateStation })
    rw [exec_frameCommand kind sender quiet assembling length, accepted, taken,
      beginAttempt_busy (s := w.withStop { w.stop with later := addLater s.stop.later .duplicateStation }) rfl]

/-! ### The filter and the delivery (R39, R40) -/

theorem bodyLength_unassigned {kind : BitVec 4} (h : kind.toNat ∉ [0, 1, 2, 3, 4, 8]) : bodyLength kind = none := by
  have other {k : BitVec 4} (hk : k.toNat ∈ [0, 1, 2, 3, 4, 8]) : kind ≠ k := fun same => h (same ▸ hk)
  unfold bodyLength
  rw [if_neg (other (by decide)), if_neg (other (by decide)), if_neg (other (by decide)),
    if_neg (other (by decide)), if_neg (other (by decide)), if_neg (other (by decide))]

theorem keeps_false_of_length {kind sender : BitVec 4} {body : List Byte} (h : bodyLength kind ≠ some body.length) :
    s.keeps kind sender body = false := by
  unfold State.keeps
  dsimp only
  rw [beq_eq_false_iff_ne.mpr h, Bool.and_false, Bool.false_and]

theorem keeps_false_of_noRole {kind sender : BitVec 4} (body : List Byte) (h : s.roleOf sender.toNat = .noRole) :
    s.keeps kind sender body = false := by
  unfold State.keeps
  rw [h]; rfl

theorem keeps_false_of_console {kind sender : BitVec 4} (body : List Byte) (hk : kind ∈ [kindGo, kindClear, kindRate])
    (h : s.roleOf sender.toNat ≠ .console) : s.keeps kind sender body = false := by
  have kinds : kind = kindGo ∨ kind = kindClear ∨ kind = kindRate := by simpa using hk
  unfold State.keeps
  dsimp only
  rw [if_pos kinds, beq_eq_false_iff_ne.mpr h, Bool.and_false]

theorem keeps_false_of_winch {sender : BitVec 4} (body : List Byte) (h : s.roleOf sender.toNat ≠ .winch) :
    s.keeps kindReport sender body = false := by
  unfold State.keeps
  dsimp only
  rw [if_neg (by decide), if_pos rfl, beq_eq_false_iff_ne.mpr h, Bool.and_false]

theorem delivers_false_of_locked (kind : BitVec 4) (h : s.seq.state = .locked) : s.delivers kind = false := by
  unfold State.delivers; rw [h]; rfl

theorem delivers_false_of_loading (kind : BitVec 4) (h : s.seq.state = .start) (hp : s.loader.progress ≠ .listen) :
    s.delivers kind = false := by
  unfold State.delivers
  rw [h, beq_eq_false_iff_ne.mpr hp]; rfl

theorem delivers_false_of_kind {kind : BitVec 4} (h : s.seq.state = .start) (mark : kind ≠ kindMark)
    (report : kind ≠ kindReport) : s.delivers kind = false := by
  unfold State.delivers
  rw [h, beq_eq_false_iff_ne.mpr mark, beq_eq_false_iff_ne.mpr report, Bool.or_false, Bool.and_false]; rfl

/-- A frame that the filter ignores or the station state withholds has no effect (R39, R40). -/
theorem acceptReceived_ignored {kind sender : BitVec 4} {body : List Byte}
    (other : ¬ (s.seq.state.operating = true ∧ sender.toNat = s.own))
    (h : s.keeps kind sender body = false ∨ s.delivers kind = false) : acceptReceived kind sender body s = s := by
  unfold acceptReceived
  rw [if_neg (by rw [Bool.and_eq_true, beq_iff_eq]; exact other)]
  refine if_neg ?_
  rcases h with h | h <;> rw [h]
  · exact (nomatch ·)
  · rw [Bool.and_false]; exact (nomatch ·)

/-- Settles O47. -/
theorem filteredFramesHaveNoEffect : Obligations.FilteredFramesHaveNoEffect := by
  unfold Obligations.FilteredFramesHaveNoEffect
  intro kind sender body s quiet assembling length other
  refine ⟨fun unassigned => ?_, fun filtered => ?_⟩
  · have accepted : acceptReceived kind sender body s.frameOver = s.frameOver :=
      acceptReceived_ignored (s := s.frameOver) other (.inl (keeps_false_of_length (s := s.frameOver)
        (by rw [bodyLength_unassigned unassigned]; exact (nomatch ·))))
    have work : receiveFrame kind sender body s = s.frameOver :=
      (receiveFrame_accepted kind sender assembling (decide_eq_true length)).trans accepted
    exact (external_of_quiet (receiveFrame kind sender body) quiet).trans
      (by rw [work, beginAttempt_busy (s := s.frameOver) rfl])
  · let w := (s.beforeFrame kind).frameOver
    obtain ⟨seq, -, number, -⟩ := beforeFrame_same kind s
    have wseq : w.seq = s.seq := seq
    have wother : ¬ (w.seq.state.operating = true ∧ sender.toNat = w.own) := by
      rw [wseq, show w.own = s.own from number]; exact other
    have role : w.roleOf sender.toNat = s.roleOf sender.toNat := beforeFrame_roles kind _ s
    have progress : w.loader.progress = s.loader.progress := beforeFrame_progress kind s
    have ignored : w.keeps kind sender body = false ∨ w.delivers kind = false := by
      rw [← role, ← wseq, ← progress] at filtered
      rcases filtered with none | ⟨rfl, long⟩ | ⟨two, long⟩ | ⟨rfl, long⟩ | ⟨consoles, wrong⟩ | ⟨rfl, wrong⟩ |
        locked | ⟨start, loading⟩ | ⟨start, mark, report⟩
      · exact .inl (keeps_false_of_noRole body none)
      · exact .inl (keeps_false_of_length fun same => long (Option.some.inj same).symm)
      · refine .inl (keeps_false_of_length fun same => long ?_)
        have length : bodyLength kind = some 2 := by
          simp only [List.mem_cons, List.not_mem_nil, or_false] at two
          rcases two with rfl | rfl | rfl | rfl <;> rfl
        exact (Option.some.inj (length.symm.trans same)).symm
      · exact .inl (keeps_false_of_length fun same => long (Option.some.inj same).symm)
      · exact .inl (keeps_false_of_console body consoles wrong)
      · exact .inl (keeps_false_of_winch body wrong)
      · exact .inr (delivers_false_of_locked kind locked)
      · exact .inr (delivers_false_of_loading kind start loading)
      · exact .inr (delivers_false_of_kind start mark report)
    rw [exec_frameCommand kind sender quiet assembling length, acceptReceived_ignored wother ignored,
      beginAttempt_busy (s := w) rfl]
    rfl

/-! ### The REPORT (R58 to R60, R66, R69) -/

theorem keeps_report {sender : BitVec 4} {body : List Byte} (length : body.length = 22)
    (h : s.roleOf sender.toNat = .winch) : s.keeps kindReport sender body = true := by
  unfold State.keeps
  rw [h, length]; rfl

theorem delivers_report (h : s.seq.state.operating = true ∨ (s.seq.state = .start ∧ s.loader.progress = .listen)) :
    s.delivers kindReport = true := by
  unfold State.delivers
  rcases h with h | ⟨state, progress⟩
  · rw [h]; rfl
  · rw [state, progress]; rfl

theorem exec_reportFrame (sender : BitVec 4) {body : List Byte} (quiet : s.quiet = true)
    (assembling : s.link.assembling = true) (length : body.length = 22) :
    exec (.reportFrame sender body) s = .next (beginAttempt (acceptReceived kindReport sender body s.frameOver)) := by
  refine (external_of_quiet (receiveFrame kindReport sender body) quiet).trans ?_
  rw [receiveFrame_accepted kindReport sender assembling (decide_eq_true (by rw [length]; decide)), endReception_eq]

theorem inStep_iff {n : Word16} : s.inStep n = true ↔ n = s.clock.count ∨ n = s.clock.count - 1#16 := by
  rw [State.inStep, Bool.or_eq_true, beq_iff_eq, beq_iff_eq]

theorem memberStation_iff {n : Nat} :
    s.memberStation n = true ↔ ∃ r ∈ s.peers.rows, r.station = n ∧ r.group = s.ownGroup ∧ n ≠ s.own := by
  rw [State.memberStation, List.any_eq_true]
  simp only [mem_members, beq_iff_eq]
  exact ⟨fun ⟨r, ⟨row, peer, group⟩, station⟩ => ⟨r, row, station, group, station ▸ peer⟩,
    fun ⟨r, row, station, group, peer⟩ => ⟨r, ⟨row, station ▸ peer, group⟩, station⟩⟩

theorem shows_stop_iff {p : Report} :
    (p.shows .stopping || p.shows .stopped) = true ↔ p.stateCode = 5#8 ∨ p.stateCode = 6#8 := by
  rw [Bool.or_eq_true, Report.shows_iff rfl, Report.shows_iff rfl]
  exact or_congr (BitVec.toNat_inj (y := 5#8)) (BitVec.toNat_inj (y := 6#8))

/-- The state in which a REPORT is stored, before the member-stopped check (R60, R66). -/
def State.reportStored (s : State) (n : Nat) (p : Report) : State :=
  recomputePeerStale (s.withPeers { s.peers with rows := s.peers.rows.map (storeInRow n p) })

theorem takeReport_eq {n : Nat} (p : Report) (peer : n ≠ s.own) (step : s.inStep p.cycleCount = true) :
    takeReport n p s =
      if s.memberStation n && s.seq.state.inFlight && (p.shows .stopping || p.shows .stopped) then
        takeCause .memberStopped n (s.reportStored n p)
      else s.reportStored n p := by
  unfold takeReport
  rw [if_neg peer, if_pos step]
  rfl

/-- A controlled cause that no frame announces, taken in flight with an empty record. -/
theorem takeCause_unsent_inFlight {c : FaultCode} (src : Nat) (hc : c.category = .controlled)
    (unsent : c.sent = false) (hs : s.seq.state.inFlight = true) (hr : s.recordEmpty) :
    takeCause c src s = (s.withSeq { s.seq with state := .stopping }).withStop { s.stop with
      first := some (c, src), category := .controlled, phase := .ramping, stopTimer := 0 } := by
  have ho : s.seq.state.operating = true := by
    cases hst : s.seq.state with
    | primed | flying | parking => rfl
    | start | ready | stopping | stopped | locked => rw [hst] at hs; cases hs
  rw [takeCause_unsent src ho unsent, intake_controlled_inFlight hc hs hr]

/-- Settles O48. -/
theorem reportIsStoredInStep : Obligations.ReportIsStoredInStep := by
  unfold Obligations.ReportIsStoredInStep
  intro sender body s quiet assembling length role place p inStep stopped
  let w := s.frameOver
  have run : exec (.reportFrame sender body) s = .next (beginAttempt (acceptReceived kindReport sender body w)) :=
    exec_reportFrame sender quiet assembling length
  have delivered (other : ¬ (s.seq.state.operating = true ∧ sender.toNat = s.own)) :
      acceptReceived kindReport sender body w = takeReport sender.toNat p w :=
    acceptReceived_delivered (s := w) other (keeps_report (s := w) length role) (delivers_report (s := w) place)
  refine ⟨fun peer step => ?_, fun peer late => ?_, fun own start => ?_⟩
  · let u := w.reportStored sender.toNat p
    have only : s.changesOnly [.link, .peers, .gov] u :=
      ((frameOver_only s).next (withPeers_only _ _) (l := [.link, .peers])).next (recomputePeerStale_only _)
    let t := takeReport sender.toNat p w
    have taken := takeReport_eq (s := w) p peer (inStep_iff.mpr step)
    have checked : (w.memberStation sender.toNat && w.seq.state.inFlight && (p.shows .stopping || p.shows .stopped)) =
        true ↔ stopped := by
      rw [Bool.and_eq_true, Bool.and_eq_true, memberStation_iff, shows_stop_iff]
      exact ⟨fun ⟨⟨⟨r, row, station, group, _⟩, flight⟩, shown⟩ => ⟨flight, shown, r, row, station, group⟩,
        fun ⟨flight, shown, r, row, station, group⟩ => ⟨⟨⟨r, row, station, group, peer⟩, flight⟩, shown⟩⟩
    have kept : u.changesOnly [.seq, .loop, .creep, .stop] t := by
      show u.changesOnly _ (takeReport sender.toNat p w)
      rw [taken]
      split
      next raised =>
        have operating : u.seq.state.operating = true := by
          have flight : s.seq.state.inFlight = true := (checked.mp raised).1
          show s.seq.state.operating = true
          cases hst : s.seq.state with
          | primed | flying | parking => rfl
          | start | ready | stopping | stopped | locked => rw [hst] at flight; cases flight
        rw [takeCause_unsent _ operating rfl]
        exact intake_only _ _ _
      next => exact .refl
    have link : t.link = s.frameOver.link := kept.link
    refine ⟨t, ?_, kept.peers, ?_, ?_, link, fun calm => ?_, fun raised empty => ?_⟩
    · rw [run, delivered (fun h => peer h.2), beginAttempt_busy (s := t) (by rw [link]; rfl)]
    · rw [kept.gov, kept.peers]
      exact memberStale_iff (s := u)
    · rw [kept.gov]; rfl
    · have calmly : t = u := taken.trans (if_neg fun h => calm (checked.mp h))
      rw [calmly]; exact only
    · have stops : t = (u.withSeq { s.seq with state := .stopping }).withStop { s.stop with
          first := some (.memberStopped, sender.toNat), category := .controlled, phase := .ramping
          stopTimer := 0 } :=
        (taken.trans (if_pos (checked.mpr raised))).trans
          (takeCause_unsent_inFlight (s := u) _ rfl rfl raised.1 empty)
      rw [stops]
      exact ⟨rfl, rfl, (only.next (withSeq_only _ _) (l := [.link, .peers, .gov, .seq])).next (withStop_only _ _)⟩
  · have ignored : takeReport sender.toNat p w = w := by
      unfold takeReport
      rw [if_neg (show ¬ sender.toNat = w.own from peer)]
      exact if_neg fun h => late (inStep_iff.mp h)
    rw [run, delivered (fun h => peer h.2), ignored, beginAttempt_busy (s := w) rfl]
  · have ignored : takeReport sender.toNat p w = w := if_pos own
    have idle : ¬ (s.seq.state.operating = true ∧ sender.toNat = s.own) := by rw [start]; exact fun h => nomatch h.1
    rw [run, delivered idle, ignored, beginAttempt_busy (s := w) rfl]

end Sys2Proof.Machine
end

section
/-!
SUPPORT. The parts of a length sample in the statements' words: the read, the Load Monitor's and the Creep Watch's
checks, the own REPORT (chapters 4 and 8).
-/

namespace Sys2Proof.Machine

set_option Elab.async false

variable {s t y : State} {load creep : CheckPoint}

/-! ### What the Load Monitor evaluates (R130, R131) -/

theorem slackNow_iff : s.slackNow = true ↔ s.slackFound := by
  unfold State.slackNow State.slackFound State.memberTensions
  rw [Bool.or_eq_true, decide_eq_true_iff, List.any_eq_true]
  refine or_congr_right ?_
  simp only [List.mem_filterMap, mem_members, Option.map_eq_some_iff, decide_eq_true_iff]
  constructor
  · rintro ⟨_, ⟨r, ⟨row, peer, group⟩, p, report, rfl⟩, below⟩
    exact ⟨r, row, peer, group, p, report, below⟩
  · rintro ⟨r, row, peer, group, p, report, below⟩
    exact ⟨_, ⟨r, ⟨row, peer, group⟩, p, report, rfl⟩, below⟩

theorem sum_filterMap_eq {α : Type} (f : α → Option Nat) (l : List α) :
    (l.filterMap f).sum = (l.map fun a => (f a).getD 0).sum := by
  induction l with
  | nil => rfl
  | cons a l ih =>
    rw [List.filterMap_cons, List.map_cons, List.sum_cons, ← ih]
    cases f a with
    | none => exact (Nat.zero_add _).symm
    | some n => rfl

theorem bandNow_iff : s.bandNow = true ↔ s.bandFound := by
  have members : s.members = s.peers.rows.filter fun r => decide (r.station ≠ s.own ∧ r.group = s.ownGroup) :=
    List.filter_congr fun r _ => by
      rw [Bool.eq_iff_iff, decide_eq_true_iff, State.isMember, State.isPeer, Bool.and_eq_true, bne_iff_ne, beq_iff_eq]
  unfold State.bandNow State.bandFound State.groupLoad State.memberTensions
  rw [Bool.or_eq_true, decide_eq_true_iff, decide_eq_true_iff, sum_filterMap_eq, members]

/-- `y` weighs as `s`: the Load Monitor finds there what it finds in `s`, the station state apart. -/
def State.weighsAs (s y : State) : Prop :=
  y.tens = s.tens ∧ y.params = s.params ∧ y.members = s.members ∧ y.load = s.load ∧ y.gov.holds = s.gov.holds

theorem State.weighsAs.slack (h : s.weighsAs y) : y.slackNow = true ↔ s.slackFound := by
  obtain ⟨tens, params, members, -⟩ := h
  rw [← slackNow_iff]
  unfold State.slackNow State.memberTensions
  rw [tens, params, members]

theorem State.weighsAs.band (h : s.weighsAs y) : y.bandNow = true ↔ s.bandFound := by
  obtain ⟨tens, params, members, -⟩ := h
  rw [← bandNow_iff]
  unfold State.bandNow State.groupLoad State.memberTensions
  rw [tens, params, members]

/-- The state with the Load Monitor's reasons and counter written, before OVERLOAD (R130, R131, assumption log 13). -/
def State.loadNoted (s : State) : State :=
  (s.withGov { s.gov with holds := s.loadHolds }).withLoad {
    slackCounter := s.slackCount
    slackDue := decide (s.seq.state = .flying) && decide (s.params.slackLimit ≤ s.slackCount) }

theorem loadNoted_only (s : State) : s.changesOnly [.gov, .load] s.loadNoted :=
  (withGov_only s _).next (withLoad_only _ _)

/-- The Load Monitor's check raises OVERLOAD in the state that it finds. -/
def State.overloads (s : State) : Prop :=
  s.seq.state.operating = true ∧ s.seq.state ≠ .stopped ∧ s.params.tMax < s.tens.latched

theorem loadCheck_silent (h : ¬ s.overloads) : loadCheck s = s.loadNoted := by
  refine if_neg fun raised => h ?_
  rw [Bool.and_eq_true, Bool.and_eq_true, bne_iff_ne, decide_eq_true_iff, and_assoc] at raised
  exact raised

theorem loadCheck_overload (h : s.overloads) : loadCheck s = takeCause .overload s.own s.loadNoted := by
  refine if_pos ?_
  rw [Bool.and_eq_true, Bool.and_eq_true, bne_iff_ne, decide_eq_true_iff, and_assoc]
  exact h

theorem State.loadWritten.same (h : s.loadWritten st t) (holds : y.gov.holds = t.gov.holds)
    (load : y.load = t.load) : s.loadWritten st y := by
  unfold State.loadWritten at *
  rwa [holds, load]

/-- What the Load Monitor writes in a state that weighs as `s`. -/
theorem State.weighsAs.written (h : s.weighsAs y) : s.loadWritten y.seq.state y.loadNoted := by
  have slack := h.slack
  have band := h.band
  obtain ⟨-, params, -, counter, holds⟩ := h
  have judged : y.evaluatesLoad = true ↔ y.seq.state = .primed ∨ y.seq.state = .flying := by
    rw [State.evaluatesLoad, Bool.or_eq_true, beq_iff_eq, beq_iff_eq]
  refine ⟨?_, ?_, (congrArg Holds.enable holds : y.gov.holds.enable = _),
    (congrArg Holds.peerStale holds : y.gov.holds.peerStale = _), fun flying found => ?_, fun calm => ?_, ?_⟩
  · show (y.evaluatesLoad && y.slackNow) = true ↔ _
    rw [Bool.and_eq_true, judged, slack]
  · show (y.evaluatesLoad && y.bandNow) = true ↔ _
    rw [Bool.and_eq_true, judged, band]
  · show y.slackCount = _
    rw [State.slackCount, if_pos ⟨flying, slack.mpr found⟩, params, counter]
  · show y.slackCount = 0
    rw [State.slackCount, if_neg (by rw [slack]; exact calm)]
  · show (decide (y.seq.state = .flying) && decide (y.params.slackLimit ≤ y.slackCount)) = true ↔ _
    rw [Bool.and_eq_true, decide_eq_true_iff, decide_eq_true_iff, params]
    rfl

theorem State.weighsAs.refl (s : State) : s.weighsAs s := ⟨rfl, rfl, rfl, rfl, rfl⟩

/-- Settles O56. -/
theorem loadMonitorHoldsTheFlight : Obligations.LoadMonitorHoldsTheFlight := by
  unfold Obligations.LoadMonitorHoldsTheFlight
  intro s operating
  refine ⟨s.loadNoted, (State.weighsAs.refl s).written, rfl, loadNoted_only s, fun calm => loadCheck_silent ?_,
    fun moving above => loadCheck_overload ⟨operating, moving, above⟩⟩
  rintro ⟨-, moving, above⟩
  exact calm.elim moving fun below => absurd above (Nat.not_lt.mpr below)

/-! ### The Load Monitor at its point of the sample -/

/-- Out of FLYING no counter stands at its limit, and the check is the whole of the Load Monitor's work. -/
theorem loadMonitorAt_notFlying (here : CheckPoint) (h : s.seq.state ≠ .flying) :
    loadMonitorAt here s = loadCheck s := by
  unfold loadMonitorAt
  split
  · rfl
  · have calm : s.loadNoted.load.slackDue = false := by
      show (decide (s.seq.state = .flying) && _) = false
      rw [decide_eq_false h, Bool.false_and]
    have load : (loadCheck s).load = s.loadNoted.load := by
      by_cases above : s.overloads
      · rw [loadCheck_overload above, (takeCause_only _ _ _).load]
      · rw [loadCheck_silent above]
    exact slackTimeoutWork_notDue (by rw [load, calm])

/-- In PRIMED and FLYING alone the two reasons are judged, in FLYING alone slack is counted (R130, R131). -/
theorem loadNoted_unjudged (primed : s.seq.state ≠ .primed) (flying : s.seq.state ≠ .flying) :
    s.loadNoted = (s.withGov { s.gov with holds := { s.gov.holds with slack := false, loadBand := false } }).withLoad
      { slackCounter := 0, slackDue := false } := by
  have unjudged : s.evaluatesLoad = false := by
    rw [State.evaluatesLoad, beq_eq_false_iff_ne.mpr primed, beq_eq_false_iff_ne.mpr flying]; rfl
  unfold State.loadNoted State.loadHolds State.slackCount
  rw [unjudged, decide_eq_false flying, if_neg fun h => flying h.1]
  rfl

/-! ### The Creep Watch's check (R134) -/

/-- The measured length is more than the creep limit from the armed reference. -/
def State.slipped (s : State) : Prop :=
  s.creep.armed = true ∧ s.params.creepLimit < ((s.len.measured : Int) - (s.creep.reference : Int)).natAbs

theorem creepCheck_silent (h : ¬ ((s.seq.state = .ready ∨ s.seq.state = .stopped) ∧ s.slipped)) :
    creepCheck s = s := by
  refine if_neg fun raised => h ?_
  rw [Bool.and_eq_true, Bool.and_eq_true, Bool.or_eq_true, beq_iff_eq, beq_iff_eq, decide_eq_true_iff,
    and_assoc] at raised
  exact raised

theorem creepCheck_slips (h : s.seq.state = .ready ∨ s.seq.state = .stopped) (slipped : s.slipped) :
    creepCheck s = takeCause .brakeSlip s.own s := by
  refine if_pos ?_
  rw [Bool.and_eq_true, Bool.and_eq_true, Bool.or_eq_true, beq_iff_eq, beq_iff_eq, decide_eq_true_iff, and_assoc]
  exact ⟨h, slipped⟩

/-! ### The read (R122 to R124) -/

theorem encoderWordFailed_iff {w : EncoderWord} :
    encoderWordFailed w = true ↔ encoderOnes w % 2 = 1 ∨ w.getLsbD 1 = true := by
  rw [encoderWordFailed, Bool.or_eq_true, beq_iff_eq]

theorem judgeWord_failed {w : EncoderWord} (h : encoderOnes w % 2 = 1 ∨ w.getLsbD 1 = true) :
    s.params.judgeWord w = .failed := if_pos (encoderWordFailed_iff.mpr h)

theorem judgeWord_good {w : EncoderWord} {l : Nat} (h : s.readsLength w l) : s.params.judgeWord w = .good l := by
  obtain ⟨parity, error, range, length⟩ := h
  have sound : ¬ encoderWordFailed w = true := by
    rw [encoderWordFailed_iff, error, parity]; decide
  have value : s.params.lengthOf (encoderCount w) = (l : Int) := by
    unfold Params.lengthOf lengthMagnitude encoderCount
    split <;> rename_i negative
    · rw [if_pos negative] at length; exact length.symm
    · rw [if_neg negative] at length; exact length.symm
  unfold Params.judgeWord
  rw [if_neg sound]
  dsimp only
  rw [value, if_pos ⟨Int.natCast_nonneg l, Int.ofNat_le.mpr range⟩]
  rfl

/-- The read leaves the length to the blocks, and raises nothing. -/
theorem completeRead_leaves {w : EncoderWord} {l : Nat} (h : s.leavesLength w l) :
    ∃ x : LengthReader, x.measured = l ∧ completeRead w s = s.withLen x := by
  unfold completeRead
  dsimp only
  rcases h with good | ⟨failed, first, rfl⟩
  · rw [judgeWord_good good]
    exact ⟨_, rfl, if_neg (nomatch ·)⟩
  · rw [judgeWord_failed failed]
    refine ⟨(s.len.keepCount w).afterRead .failed, ?_, if_neg ?_⟩
    · show (s.len.keepCount w).measured = _
      unfold LengthReader.keepCount; split <;> rfl
    · show ¬ decide (1 ≤ s.len.failures) = true
      rw [first]; decide

/-- The work of a length sample, to be run by its command. -/
theorem exec_lengthSample (w : EncoderWord) (load creep : CheckPoint) (quiet : s.quiet = true) :
    exec (.lengthSample w load creep) s = .next (beginAttempt (lengthSampleWork w load creep s)) :=
  external_of_quiet (lengthSampleWork w load creep) quiet

/-- The length sample in operation, after a read that leaves a length. -/
theorem exec_sample {w : EncoderWord} {l : Nat} (load creep : CheckPoint) (quiet : s.quiet = true)
    (reading : s.len.reading = true) (operating : s.seq.state.operating = true) (leaves : s.leavesLength w l) :
    ∃ x : LengthReader, x.measured = l ∧
      exec (.lengthSample w load creep) s = .next (beginAttempt (cycleWork load creep (s.withLen x))) := by
  obtain ⟨x, length, read⟩ := completeRead_leaves leaves
  refine ⟨x, length, ?_⟩
  have work : lengthSampleWork w load creep s = cycleWork load creep (s.withLen x) := by
    unfold lengthSampleWork
    rw [if_pos reading]
    dsimp only
    rw [read]
    exact if_pos operating
  rw [exec_lengthSample w load creep quiet, work]

/-! ### The own REPORT (R62, R63) -/

/-- `t` is `z` after the own REPORT is composed, or an attempt has begun: the Link Port and the own row alone differ,
and on a BUSY line the STOP slot and the line do not. -/
def State.reportedAs (z t : State) : Prop :=
  z.changesOnly [.link, .peers] t ∧ t.members = z.members ∧
    (z.link.line = .busy → t.link.line = .busy ∧ t.link.stopSlot = z.link.stopSlot)

theorem State.reportedAs.refl (z : State) : z.reportedAs z := ⟨.refl, rfl, fun busy => ⟨busy, rfl⟩⟩

theorem State.reportedAs.trans {u v w : State} (h : u.reportedAs v) (h' : v.reportedAs w) : u.reportedAs w := by
  obtain ⟨only, members, line⟩ := h
  obtain ⟨only', members', line'⟩ := h'
  refine ⟨only.next only', members'.trans members, fun busy => ?_⟩
  obtain ⟨busy', slot⟩ := line busy
  exact ⟨(line' busy').1, (line' busy').2.trans slot⟩

theorem composeReport_operating (h : s.seq.state.operating = true) : composeReport s =
    requestSlot .report s.ownReport.toBytes
      (s.withPeers { s.peers with rows := s.peers.rows.map (storeInRow s.own s.ownReport) }) := if_pos h

/-- The own row is no member's, so that the members are as they were. -/
theorem members_storeOwn (p : Report) (rows : List Row) :
    (rows.map (storeInRow s.own p)).filter s.isMember = rows.filter s.isMember := by
  induction rows with
  | nil => rfl
  | cons r rows ih =>
    rw [List.map_cons]
    by_cases own : r.station = s.own
    · have out (r : Row) (h : r.station = s.own) : ¬ s.isMember r = true := by
        rw [State.isMember, State.isPeer, bne_eq_false_iff_eq.mpr h]; exact (nomatch ·)
      have stored : (storeInRow s.own p r).station = s.own := by rw [storeInRow, if_pos own]; exact own
      rw [List.filter_cons_of_neg (out _ stored), List.filter_cons_of_neg (out r own), ih]
    · rw [storeInRow, if_neg own, List.filter_cons, List.filter_cons, ih]

theorem composeReport_reported (z : State) : z.reportedAs (composeReport z) := by
  refine ⟨(composeReport_only z).mono, ?_, fun busy => ?_⟩
  · cases h : z.seq.state.operating
    · rw [composeReport, if_neg (by rw [h]; decide)]
    · rw [composeReport_operating h]; exact members_storeOwn z.ownReport z.peers.rows
  · unfold composeReport
    split <;> exact ⟨busy, rfl⟩

theorem beginAttempt_reported (z : State) : z.reportedAs (beginAttempt z) := by
  obtain ⟨x, hx⟩ := beginAttempt_eq_withLink z
  refine ⟨(beginAttempt_only z).mono, by rw [hx]; rfl, fun busy => ?_⟩
  rw [beginAttempt_busy busy]; exact ⟨busy, rfl⟩

/-! ### The stages of the sample (R125) -/

theorem checksAt_eq (here load creep : CheckPoint) (s : State) : checksAt here load creep s =
    if here = creep then creepCheck (if here = load then loadMonitorAt here s else s)
    else if here = load then loadMonitorAt here s else s := rfl

theorem primedWork_other (h : s.seq.state ≠ .primed) : primedWork s = s := if_neg h

theorem completionTest_other (h : ¬ (s.seq.state = .flying ∧ s.gov.achieved = s.cueEnd)) : completionTest s = s :=
  if_neg h

/-- What holds of a sample by its stages, whatever their order: `ld`, `cd` and `wd` say whether the Load Monitor's
check, the Creep Watch's check and the computation are done. -/
theorem cycleWork_induction {P : Bool → Bool → Bool → State → Prop} {load creep : CheckPoint}
    (monitor : ∀ {cd wd : Bool} {y : State} (here : CheckPoint), P false cd wd y → P true cd wd (loadMonitorAt here y))
    (watch : ∀ {ld wd : Bool} {y : State}, P ld false wd y → P ld true wd (creepCheck y))
    (primed : ∀ {ld cd wd : Bool} {y : State}, P ld cd wd y → P ld cd wd (primedWork y))
    (work : ∀ {ld cd : Bool} {y : State} (e : Bool), P ld cd false y → P ld cd true (loopWork e y))
    (completion : ∀ {ld cd wd : Bool} {y : State}, P ld cd wd y → P ld cd wd (completionTest y))
    (report : ∀ {ld cd wd : Bool} {y : State}, P ld cd wd y → P ld cd wd (composeReport y))
    (start : P false false false s) : P true true true (cycleWork load creep s) := by
  have checks {ld cd wd : Bool} {y : State} (here : CheckPoint) (h : P ld cd wd y) (hl : here = load → ld = false)
      (hc : here = creep → cd = false) :
      P (ld || decide (here = load)) (cd || decide (here = creep)) wd (checksAt here load creep y) := by
    have loaded : P (ld || decide (here = load)) cd wd (if here = load then loadMonitorAt here y else y) := by
      split
      next at_ =>
        rw [hl at_] at h
        rw [decide_eq_true at_, Bool.or_true]
        exact monitor here h
      next off => rw [decide_eq_false off, Bool.or_false]; exact h
    rw [checksAt_eq]
    split
    next at_ =>
      rw [hc at_] at loaded
      rw [decide_eq_true at_, Bool.or_true]
      exact watch loaded
    next off => rw [decide_eq_false off, Bool.or_false]; exact loaded
  have h₁ := primed (checks .beforeSequencer start (fun _ => rfl) fun _ => rfl)
  have h₂ := checks .beforeComputation h₁ (by rintro rfl; rfl) (by rintro rfl; rfl)
  have h₃ := checks .beforeCompletion (work
    ((checksAt .beforeSequencer load creep s).seq.state == .primed &&
      (primedWork (checksAt .beforeSequencer load creep s)).seq.state == .flying) h₂)
    (by rintro rfl; rfl) (by rintro rfl; rfl)
  have h₄ := checks .beforeReport (completion h₃) (by rintro rfl; rfl) (by rintro rfl; rfl)
  have h₅ := checks .afterReport (report h₄) (by rintro rfl; rfl) (by rintro rfl; rfl)
  have all (p : CheckPoint) : (((((false || decide (CheckPoint.beforeSequencer = p)) ||
      decide (CheckPoint.beforeComputation = p)) || decide (CheckPoint.beforeCompletion = p)) ||
      decide (CheckPoint.beforeReport = p)) || decide (CheckPoint.afterReport = p)) = true := by
    cases p <;> rfl
  rw [all load, all creep] at h₅
  exact h₅

end Sys2Proof.Machine
end

section
/-!
SUPPORT. The length samples of a station at rest: READY, PARKING and STOPPED (chapters 7 to 9).
-/

namespace Sys2Proof.Machine

set_option Elab.async false

variable {s t y : State} {load creep : CheckPoint}

/-! ### Causes at rest -/

/-- No cause moves a stopped station. -/
theorem takeCause_stopped_seq (c : FaultCode) (src : Nat) (hs : s.seq.state = .stopped) :
    (takeCause c src s).seq = s.seq := by
  have still : { s.seq with state := .stopped } = s.seq := by rw [← hs]
  refine takeCause_induction (P := fun t => t.seq = s.seq) (fun _ h => h) c src (fun _ => rfl) fun _ made => ?_
  cases made with
  | inForce => rfl
  | brakeStands _ h => cases hs.symm.trans h
  | ramps _ h => rw [show (s.withStop (s.stop.record c src)).seq.state = _ from hs] at h; cases h
  | drops => exact (dropped_seq (s.withStop (s.stop.record c src))).trans still
  | holds => exact (assisted_seq (s.withStop (s.stop.record c src))).trans still

/-- Immediate causes alone have the brake confirmed for the Creep Watch at once (R133). -/
theorem takeCause_creep {c : FaultCode} (src : Nat) (hc : c.category ≠ .immediate) :
    (takeCause c src s).creep = s.creep := by
  refine takeCause_induction (P := fun t => t.creep = s.creep) (fun _ h => h) c src (fun _ => rfl) fun _ made => ?_
  cases made with
  | inForce | brakeStands | ramps => rfl
  | drops h => exact absurd h hc
  | holds => exact assisted_creep (s.withStop (s.stop.record c src))

theorem creepCheck_creep (s : State) : (creepCheck s).creep = s.creep := by
  unfold creepCheck
  split
  · exact takeCause_creep s.own (by decide)
  · rfl

/-! ### READY (R129, R131, R134) -/

/-- What the Load Monitor leaves where it judges nothing: the reasons cleared, the counter 0. -/
def State.loadCleared (s : State) : Governor := { s.gov with holds := { s.gov.holds with slack := false, loadBand := false } }

/-- The blocks that a sample at rest keeps or clears, with the Load Monitor's check done or not. -/
def State.atRest (s : State) (l : Nat) (ld : Bool) (y : State) : Prop :=
  y.gov = (if ld then s.loadCleared else s.gov) ∧
    y.load = (if ld then { slackCounter := 0, slackDue := false } else s.load) ∧
    y.creep = s.creep ∧ y.tens = s.tens ∧ y.params = s.params ∧ y.len.measured = l

theorem State.atRest.same {l : Nat} {ld : Bool} (h : s.atRest l ld y)
    (only : y.changesOnly [.link, .peers, .seq, .loop, .stop] t) :
    s.atRest l ld t := by
  unfold State.atRest
  rw [only.gov, only.load, only.creep, only.tens, only.params, only.len]
  exact h

/-- A cause that the Creep Watch or the Load Monitor raises leaves the clearing of the reasons as it is. -/
theorem State.atRest.cause {l : Nat} {ld : Bool} (h : s.atRest l ld y) {c : FaultCode} (src : Nat)
    (hc : c.category ≠ .immediate) : s.atRest l ld (takeCause c src y) := by
  have only := takeCause_only y c src
  unfold State.atRest
  rw [only.gov, only.load, takeCause_creep src hc, only.tens, only.params, only.len]
  exact h

theorem State.atRest.noted {l : Nat} (h : s.atRest l false y) (primed : y.seq.state ≠ .primed)
    (flying : y.seq.state ≠ .flying) : s.atRest l true y.loadNoted := by
  obtain ⟨gov, -, creep, tens, params, length⟩ := h
  rw [loadNoted_unjudged primed flying]
  refine ⟨?_, rfl, creep, tens, params, length⟩
  show ({ y.gov with holds := { y.gov.holds with slack := false, loadBand := false } } : Governor) = _
  rw [gov]; rfl

theorem State.atRest.slipped_iff {l : Nat} {ld : Bool} (h : s.atRest l ld y) : y.slipped ↔ s.creep.armed = true ∧
    s.params.creepLimit < ((l : Int) - (s.creep.reference : Int)).natAbs := by
  obtain ⟨-, -, creep, -, params, length⟩ := h
  unfold State.slipped
  rw [creep, params, length]

theorem State.atRest.monitor {l : Nat} (here : CheckPoint) (h : s.atRest l false y) (primed : y.seq.state ≠ .primed)
    (flying : y.seq.state ≠ .flying) : s.atRest l true (loadMonitorAt here y) := by
  rw [loadMonitorAt_notFlying here flying]
  by_cases above : y.overloads
  · rw [loadCheck_overload above]
    exact (h.noted primed flying).cause _ (by decide)
  · rw [loadCheck_silent above]
    exact h.noted primed flying

/-- A READY station in the middle of its sample: `slip` and `weight` say whether BRAKE_SLIP and OVERLOAD have been
found. -/
def State.readyWatch (s : State) (slip weight : Prop) (y : State) : Prop :=
  (¬ slip → ¬ weight → y.seq = s.seq ∧ y.stop = s.stop ∧ y.loop = s.loop) ∧
    (slip → ¬ weight → y.seq = { s.seq with state := .stopped } ∧
      y.stop = { s.stop with first := some (.brakeSlip, s.own), category := .assist, assist := true } ∧
      y.loop.drive = true ∧ y.loop.brake = .set ∧ s.heldByDrive y) ∧
    (weight → ¬ slip → y.seq = { s.seq with state := .stopped } ∧
      y.stop = { s.stop with first := some (.overload, s.own), category := .controlled } ∧ y.loop = s.loop) ∧
    (slip ∨ weight → y.seq.state = .stopped)

theorem State.readyWatch.same {slip weight : Prop} (h : s.readyWatch slip weight y)
    (only : y.changesOnly [.link, .peers, .gov, .load, .creep] t) : s.readyWatch slip weight t := by
  unfold State.readyWatch State.heldByDrive at *
  rw [only.seq, only.stop, only.loop]
  exact h

theorem State.readyWatch.congr {slip weight slip' weight' : Prop} (h : s.readyWatch slip weight y)
    (hs : slip' ↔ slip) (hw : weight' ↔ weight) : s.readyWatch slip' weight' y := by
  rw [State.readyWatch, hs, hw]; exact h

theorem State.readyWatch.state {slip weight : Prop} (h : s.readyWatch slip weight y) (ready : s.seq.state = .ready) :
    y.seq.state = .ready ∧ ¬ slip ∧ ¬ weight ∨ y.seq.state = .stopped ∧ (slip ∨ weight) := by
  obtain ⟨calm, -, -, raised⟩ := h
  by_cases found : slip ∨ weight
  · exact .inr ⟨raised found, found⟩
  · have slip := fun h => found (.inl h)
    have weight := fun h => found (.inr h)
    exact .inl ⟨by rw [(calm slip weight).1]; exact ready, slip, weight⟩

/-- An OVERLOAD found in READY stops the station on its brake. -/
theorem takeCause_overload_ready (ready : s.seq.state = .ready) (hr : s.recordEmpty) :
    (takeCause .overload s.own s).seq = { s.seq with state := .stopped } ∧
      (takeCause .overload s.own s).stop = { s.stop with first := some (.overload, s.own), category := .controlled } ∧
      (takeCause .overload s.own s).loop = s.loop := by
  obtain ⟨x, hx⟩ := takeCause_eq_withLink (c := .overload) (src := s.own) (s := s) (by rw [ready]; rfl)
  rw [hx, intake_controlled_ready rfl ready hr]
  exact ⟨rfl, rfl, rfl⟩

/-- A slip found in READY begins ASSIST. -/
theorem takeCause_slip_ready (ready : s.seq.state = .ready) (hr : s.recordEmpty) :
    let t := takeCause .brakeSlip s.own s
    t.seq = { s.seq with state := .stopped } ∧
      t.stop = { s.stop with first := some (.brakeSlip, s.own), category := .assist, assist := true } ∧
      t.loop.drive = true ∧ t.loop.brake = .set ∧ s.heldByDrive t := by
  have operating : s.seq.state.operating = true := by rw [ready]; rfl
  obtain ⟨x, hx⟩ := takeCause_eq_withLink (c := .brakeSlip) (src := s.own) (s := s) operating
  let u : State := s.withStop { s.stop with first := some (.brakeSlip, s.own) }
  have taken : intake .brakeSlip s.own s = assisted u := by
    rw [intake_assist operating rfl fun h => nomatch ready.symm.trans h]
    exact congrArg (fun z => assisted (s.withStop z)) (record_opens hr.1 _ _)
  obtain ⟨brake, drive, -⟩ := assisted_brake u
  intro t
  rw [show t = _ from hx, taken]
  exact ⟨assisted_seq u, assisted_stop u, drive, brake, assisted_target u⟩

theorem loopWork_stopped (e : Bool) (hs : s.seq.state = .stopped) :
    loopWork e s = if s.loop.drive then speedCommand s.loop.target false s else s := by
  unfold loopWork; rw [hs]

theorem loopWork_parking (e : Bool) (hs : s.seq.state = .parking) :
    loopWork e s = if s.loop.drive then speedCommand s.loop.target false s else s := by
  unfold loopWork; rw [hs]

theorem loopWork_ready (e : Bool) (hs : s.seq.state = .ready) : loopWork e s = s := by
  unfold loopWork; rw [hs]

/-- The invariant of a READY station's sample. -/
def State.readySample (s : State) (l : Nat) (ld cd : Bool) (y : State) : Prop :=
  s.atRest l ld y ∧ s.readyWatch
    (cd = true ∧ s.creep.armed = true ∧ s.params.creepLimit < ((l : Int) - (s.creep.reference : Int)).natAbs)
    (ld = true ∧ s.params.tMax < s.tens.latched) y

theorem State.readySample.monitored {l : Nat} {cd : Bool} (ready : s.seq.state = .ready) (hr : s.recordEmpty)
    (here : CheckPoint) (h : s.readySample l false cd y) : s.readySample l true cd (loadMonitorAt here y) := by
  obtain ⟨rest, watch⟩ := h
  obtain ⟨-, -, -, tens, params, -⟩ := id rest
  have own : y.own = s.own := congrArg Params.station params
  rcases watch.state ready with ⟨state, noSlip, -⟩ | ⟨state, -⟩
  all_goals
    have primed : y.seq.state ≠ .primed := by rw [state]; decide
    have flying : y.seq.state ≠ .flying := by rw [state]; decide
    refine ⟨rest.monitor here primed flying, ?_⟩
    rw [loadMonitorAt_notFlying here flying]
  · obtain ⟨seq, stop, loop⟩ := watch.1 noSlip (fun h => nomatch h.1)
    by_cases above : s.params.tMax < s.tens.latched
    · have raised : y.overloads := ⟨by rw [state]; rfl, by rw [state]; decide, by rw [params, tens]; exact above⟩
      have empty : y.loadNoted.recordEmpty := by
        unfold State.recordEmpty; rw [(loadNoted_only y).stop, stop]; exact hr
      obtain ⟨seq', stop', loop'⟩ := takeCause_overload_ready (s := y.loadNoted) state empty
      rw [loadCheck_overload raised]
      refine ⟨fun _ h => absurd ⟨rfl, above⟩ h, fun h => absurd h noSlip, fun _ _ => ⟨?_, ?_, ?_⟩, fun _ => ?_⟩
      · exact seq'.trans (by rw [(loadNoted_only y).seq, seq])
      · exact stop'.trans (by rw [(loadNoted_only y).stop, stop, show y.loadNoted.own = s.own from own])
      · exact loop'.trans loop
      · exact congrArg Sequencer.state seq'
    · rw [loadCheck_silent fun h => above (by rw [← params, ← tens]; exact h.2.2)]
      exact (watch.same (loadNoted_only y).mono).congr Iff.rfl ⟨fun h => absurd h.2 above, fun h => nomatch h.1⟩
  · rw [loadCheck_silent fun h => h.2.1 state]
    have noted := watch.same (t := y.loadNoted) (loadNoted_only y).mono
    by_cases above : s.params.tMax < s.tens.latched
    · obtain ⟨-, -, -, raised⟩ := noted
      have slip : _ := (watch.state ready).resolve_left fun h => nomatch state.symm.trans h.1
      have slip := slip.2.resolve_right fun h => nomatch h.1
      exact ⟨fun h => absurd slip h, fun _ h => absurd ⟨rfl, above⟩ h, fun _ h => absurd slip h, fun _ => raised (.inl slip)⟩
    · exact noted.congr Iff.rfl ⟨fun h => absurd h.2 above, fun h => nomatch h.1⟩

theorem State.readySample.watched {l : Nat} {ld : Bool} (ready : s.seq.state = .ready) (hr : s.recordEmpty)
    (h : s.readySample l ld false y) : s.readySample l ld true (creepCheck y) := by
  obtain ⟨rest, watch⟩ := h
  obtain ⟨-, -, creep, -, params, -⟩ := id rest
  have own : y.own = s.own := congrArg Params.station params
  have slips := rest.slipped_iff
  by_cases slip : y.slipped
  · have found := slips.mp slip
    rcases watch.state ready with ⟨state, -, light⟩ | ⟨state, raised⟩
    · rw [creepCheck_slips (.inl state) slip]
      refine ⟨rest.cause _ (by decide), ?_⟩
      obtain ⟨seq, stop, loop⟩ := watch.1 (fun h => nomatch h.1) light
      have empty : y.recordEmpty := by unfold State.recordEmpty; rw [stop]; exact hr
      obtain ⟨seq', stop', drive, brake, held⟩ := takeCause_slip_ready state empty
      refine ⟨fun h => absurd ⟨rfl, found⟩ h, fun _ _ => ⟨?_, ?_, drive, brake, ?_⟩, fun _ h => absurd ⟨rfl, found⟩ h,
        fun _ => congrArg Sequencer.state seq'⟩
      · rw [seq', seq]
      · rw [stop', stop, own]
      · unfold State.heldByDrive at held ⊢
        rw [creep, found.1] at held
        rw [found.1]
        exact held
    · rw [creepCheck_slips (.inr state) slip]
      have weight := raised.resolve_left fun h => nomatch h.1
      refine ⟨rest.cause _ (by decide), fun _ h => absurd weight h, fun _ h => absurd weight h,
        fun _ h => absurd ⟨rfl, found⟩ h, fun _ => ?_⟩
      rw [takeCause_stopped_seq _ _ state]; exact state
  · rw [creepCheck_silent fun h => slip h.2]
    exact ⟨rest, watch.congr ⟨fun h => absurd (slips.mpr h.2) slip, fun h => nomatch h.1⟩ Iff.rfl⟩

theorem State.readySample.worked {l : Nat} {ld cd : Bool} (ready : s.seq.state = .ready) (drive : s.loop.drive = false)
    (e : Bool) (h : s.readySample l ld cd y) : s.readySample l ld cd (loopWork e y) := by
  obtain ⟨rest, watch⟩ := h
  rcases watch.state ready with ⟨state, -⟩ | ⟨state, raised⟩
  · rw [loopWork_ready e state]; exact ⟨rest, watch⟩
  · rw [loopWork_stopped e state]
    split
    next on =>
      have only := speedCommand_only y y.loop.target false
      refine ⟨rest.same only.mono, fun h h' => absurd raised (not_or.mpr ⟨h, h'⟩), fun slip light => ?_,
        fun weight still => ?_,
        fun _ => state⟩
      · obtain ⟨seq, stop, drive, brake, assist, target, previous⟩ := watch.2.1 slip light
        exact ⟨seq, stop, drive, brake, assist, target, target⟩
      · obtain ⟨-, -, loop⟩ := watch.2.2.1 weight still
        rw [loop, drive] at on; cases on
    next => exact ⟨rest, watch⟩

/-- Settles O55. -/
theorem readySampleWatchesLoadAndCreep : Obligations.ReadySampleWatchesLoadAndCreep := by
  unfold Obligations.ReadySampleWatchesLoadAndCreep
  intro w load creep l s quiet reading ready hr hfit leaves slips overloaded
  obtain ⟨x, length, run⟩ := exec_sample load creep quiet reading (by rw [ready]; rfl) leaves
  have drive : s.loop.drive = false := by rw [hfit.drive, State.driveWanted, ready]
  have start : s.readySample l false false (s.withLen x) :=
    ⟨⟨rfl, rfl, rfl, rfl, rfl, length⟩, fun _ _ => ⟨rfl, rfl, rfl⟩, fun h => (nomatch h.1), fun h => (nomatch h.1),
      fun h => h.elim (fun h => nomatch h.1) fun h => nomatch h.1⟩
  have still {ld cd : Bool} {y : State} (h : s.readySample l ld cd y) : y.seq.state = .ready ∨ y.seq.state = .stopped :=
    (h.2.state ready).imp And.left And.left
  have sample : s.readySample l true true (cycleWork load creep (s.withLen x)) :=
    cycleWork_induction (P := fun ld cd _ y => s.readySample l ld cd y)
      (fun here h => h.monitored ready hr here) (fun h => h.watched ready hr)
      (fun h => by rwa [primedWork_other fun hp => by have := still h; rw [hp] at this; simp at this])
      (fun e h => h.worked ready drive e)
      (fun h => by rwa [completionTest_other fun hp => by have := still h; rw [hp.1] at this; simp at this])
      (fun h => ⟨h.1.same (composeReport_only _).mono, h.2.same (composeReport_only _).mono⟩) start
  obtain ⟨z, hz⟩ := beginAttempt_eq_withLink (cycleWork load creep (s.withLen x))
  obtain ⟨⟨gov, cleared, creep', -⟩, calm, slip, weight, -⟩ := sample
  refine ⟨_, run, ?_⟩
  rw [hz]
  exact ⟨gov, cleared, creep', fun h h' => calm (fun k => h k.2) fun k => h' k.2, fun h h' => slip ⟨rfl, h⟩ fun k => h' k.2,
    fun h h' => weight ⟨rfl, h⟩ fun k => h' k.2⟩

/-! ### PARKING and STOPPED (R107, R119, R134) -/

/-- The Line Loop's work of a sample reads the Line Loop, the parameters and the measured length alone. -/
theorem speedCommand_loop_congr {z : State} (target : Nat) (e : Bool) (loop : y.loop = z.loop)
    (params : y.params = z.params) (length : y.len.measured = z.len.measured) :
    (speedCommand target e y).loop = (speedCommand target e z).loop := by
  unfold speedCommand
  rw [loop, params, length]
  rfl

/-- The checks and tests before the computation. -/
def untilLoop (load creep : CheckPoint) (s : State) : State :=
  checksAt .beforeComputation load creep (primedWork (checksAt .beforeSequencer load creep s))

/-- The Sequencer's tests move the station from PRIMED to FLYING at this sample. -/
def entersFlight (load creep : CheckPoint) (s : State) : Bool :=
  (checksAt .beforeSequencer load creep s).seq.state == .primed &&
    (primedWork (checksAt .beforeSequencer load creep s)).seq.state == .flying

/-- What follows the computation: the test for completion and the own REPORT, with the checks at their places. -/
def finish (load creep : CheckPoint) (s : State) : State :=
  checksAt .afterReport load creep (composeReport (checksAt .beforeReport load creep
    (completionTest (checksAt .beforeCompletion load creep s))))

theorem cycleWork_stages (load creep : CheckPoint) (s : State) : cycleWork load creep s =
    finish load creep (loopWork (entersFlight load creep s) (untilLoop load creep s)) := rfl

theorem checksAt_none {here : CheckPoint} (hl : here ≠ load) (hc : here = creep → creepCheck s = s) :
    checksAt here load creep s = s := by
  rw [checksAt_eq, if_neg hl]
  split
  · exact hc ‹_›
  · rfl

/-- A parked station in the middle of its sample. -/
def State.parkedSample (s : State) (l : Nat) (ld wd : Bool) (y : State) : Prop :=
  s.atRest l ld y ∧ y.seq = s.seq ∧ y.stop = s.stop ∧
    y.loop = if wd then (speedCommand s.loop.target false (s.withLen { s.len with measured := l })).loop else s.loop

theorem State.parkedSample.worked {l : Nat} {ld : Bool} (parking : s.seq.state = .parking)
    (drive : s.loop.drive = true) (e : Bool) (h : s.parkedSample l ld false y) :
    s.parkedSample l ld true (loopWork e y) := by
  obtain ⟨rest, seq, stop, loop⟩ := h
  have held : loopWork e y = speedCommand s.loop.target false y := by
    rw [loopWork_parking e (by rw [seq]; exact parking), loop]
    exact if_pos drive
  obtain ⟨-, -, -, -, params, length⟩ := id rest
  rw [held]
  exact ⟨rest.same (speedCommand_only y _ _).mono, seq, stop, speedCommand_loop_congr _ _ loop params length⟩

theorem State.parkedSample.same {l : Nat} {ld wd : Bool} (h : s.parkedSample l ld wd y)
    (only : y.changesOnly [.link, .peers] t) : s.parkedSample l ld wd t := by
  obtain ⟨rest, seq, stop, loop⟩ := h
  exact ⟨rest.same only.mono, only.seq.trans seq, only.stop.trans stop, only.loop.trans loop⟩

theorem State.parkedSample.still {l : Nat} {ld wd : Bool} (h : s.parkedSample l ld wd y)
    (parking : s.seq.state = .parking) : y.seq.state = .parking := by
  obtain ⟨-, seq, -⟩ := h
  rw [seq]; exact parking

theorem creepCheck_moving (ready : s.seq.state ≠ .ready) (stopped : s.seq.state ≠ .stopped) : creepCheck s = s :=
  creepCheck_silent fun h => h.1.elim ready stopped

theorem parked_sample {l : Nat} (parking : s.seq.state = .parking) (drive : s.loop.drive = true)
    (light : ¬ s.params.tMax < s.tens.latched) {x : LengthReader} (length : x.measured = l) :
    s.parkedSample l true true (cycleWork load creep (s.withLen x)) := by
  refine cycleWork_induction (P := fun ld _ wd y => s.parkedSample l ld wd y) (fun here h => ?_) (fun h => ?_)
    (fun h => ?_) (fun e h => h.worked parking drive e) (fun h => ?_) (fun h => h.same (composeReport_only _).mono) ?_
  · have state := h.still parking
    obtain ⟨rest, seq, stop, loop⟩ := h
    obtain ⟨-, -, -, tens, params, -⟩ := id rest
    rw [loadMonitorAt_notFlying here (by rw [state]; decide),
      loadCheck_silent fun above => light (by rw [← params, ← tens]; exact above.2.2)]
    exact ⟨rest.noted (by rw [state]; decide) (by rw [state]; decide), seq, stop, loop⟩
  · rwa [creepCheck_moving (by rw [h.still parking]; decide) (by rw [h.still parking]; decide)]
  · rwa [primedWork_other (by rw [h.still parking]; decide)]
  · rwa [completionTest_other fun flying => by cases (h.still parking).symm.trans flying.1]
  · exact ⟨⟨rfl, rfl, rfl, rfl, rfl, length⟩, rfl, rfl, rfl⟩

/-- In PARKING with the Load Monitor's check after the REPORT, that check is all that follows the line's work. -/
theorem cycleWork_parked_afterReport (parking : s.seq.state = .parking) (drive : s.loop.drive = true) :
    cycleWork .afterReport creep s =
      checksAt .afterReport .afterReport creep (composeReport (speedCommand s.loop.target false s)) := by
  have still (y : State) (h : y.seq.state = .parking) {here : CheckPoint} (out : here ≠ .afterReport) :
      checksAt here .afterReport creep y = y :=
    checksAt_none out fun _ => creepCheck_moving (by rw [h]; decide) (by rw [h]; decide)
  let u := speedCommand s.loop.target false s
  have park : u.seq.state = .parking := parking
  have until_ : untilLoop .afterReport creep s = s := by
    unfold untilLoop
    rw [still s parking (by decide), primedWork_other (by rw [parking]; decide), still s parking (by decide)]
  have work : loopWork (entersFlight .afterReport creep s) s = u :=
    (loopWork_parking _ parking).trans (if_pos drive)
  rw [cycleWork_stages, until_, work]
  unfold finish
  rw [still u park (by decide), completionTest_other (fun h => nomatch park.symm.trans h.1), still u park (by decide)]

/-- A stopped station in the middle of its sample: `slip` says whether BRAKE_SLIP has been found. -/
def State.stoppedWatch (s : State) (l : Nat) (slip : Prop) (wd : Bool) (y : State) : Prop :=
  let held := (speedCommand s.loop.target false (s.withLen { s.len with measured := l })).loop
  let loop := if wd = true ∧ s.stop.category = .assist then held else s.loop
  y.seq = s.seq ∧
    (¬ slip → y.stop = s.stop ∧ y.loop = loop) ∧
    (slip → s.stop.category ≠ .controlled →
      y.stop = { s.stop with later := addLater s.stop.later .brakeSlip } ∧ y.loop = loop) ∧
    (slip → s.stop.category = .controlled →
      y.stop = { s.stop with later := addLater s.stop.later .brakeSlip, category := .assist, assist := true } ∧
        y.loop.drive = true ∧ y.loop.brake = .set ∧ y.loop.supervision = s.loop.supervision ∧ s.heldByDrive y)

/-- The invariant of a stopped station's sample. -/
def State.stoppedSample (s : State) (l : Nat) (ld cd wd : Bool) (y : State) : Prop :=
  s.atRest l ld y ∧ s.stoppedWatch l
    (cd = true ∧ s.creep.armed = true ∧ s.params.creepLimit < ((l : Int) - (s.creep.reference : Int)).natAbs) wd y

theorem State.stoppedWatch.same {l : Nat} {slip : Prop} {wd : Bool} (h : s.stoppedWatch l slip wd y)
    (only : y.changesOnly [.link, .peers, .gov, .load, .creep] t) : s.stoppedWatch l slip wd t := by
  unfold State.stoppedWatch State.heldByDrive at *
  rw [only.seq, only.stop, only.loop]
  exact h

theorem State.stoppedSample.monitored {l : Nat} {cd wd : Bool} (stopped : s.seq.state = .stopped)
    (here : CheckPoint) (h : s.stoppedSample l false cd wd y) : s.stoppedSample l true cd wd (loadMonitorAt here y) := by
  obtain ⟨rest, watch⟩ := h
  have state : y.seq.state = .stopped := by rw [watch.1]; exact stopped
  rw [loadMonitorAt_notFlying here (by rw [state]; decide), loadCheck_silent fun above => above.2.1 state]
  exact ⟨rest.noted (by rw [state]; decide) (by rw [state]; decide), watch.same (loadNoted_only y).mono⟩

theorem State.stoppedSample.watched {l : Nat} {ld wd : Bool} (stopped : s.seq.state = .stopped) (hr : s.recordFits)
    (hfit : s.outputsFit) (h : s.stoppedSample l ld false wd y) : s.stoppedSample l ld true wd (creepCheck y) := by
  obtain ⟨rest, watch⟩ := h
  obtain ⟨-, -, creep, -, params, -⟩ := id rest
  have slips := rest.slipped_iff
  have state : y.seq.state = .stopped := by rw [watch.1]; exact stopped
  by_cases slip : y.slipped
  · have found := slips.mp slip
    obtain ⟨seq, calm, -⟩ := watch
    obtain ⟨stop, loop⟩ := calm fun h => nomatch h.1
    obtain ⟨⟨opened, some, -⟩, -⟩ := (recordFits_stopped stopped).mp hr
    obtain ⟨first, hfirst⟩ := Option.isSome_iff_exists.mp opened
    have operating : y.seq.state.operating = true := by rw [state]; rfl
    have recorded : y.withStop (y.stop.record .brakeSlip y.own) =
        y.withStop { s.stop with later := addLater s.stop.later .brakeSlip } := by
      rw [stop, record_adds hfirst]
    rw [creepCheck_slips (.inr state) slip]
    refine ⟨rest.cause _ (by decide), (takeCause_stopped_seq _ _ state).trans seq, fun h => absurd ⟨rfl, found⟩ h,
      fun _ other => ?_, fun _ controlled => ?_⟩
    · have inForce : y.stop.category = .immediate ∨ FaultCode.category .brakeSlip = .assist ∧ y.stop.category = .assist := by
        rw [stop]
        rcases hc : s.stop.category with _ | _ | _ | _
        · exact absurd hc some
        · exact absurd hc other
        · exact .inl rfl
        · exact .inr ⟨rfl, rfl⟩
      have taken : takeCause .brakeSlip y.own y = y.withStop { s.stop with later := addLater s.stop.later .brakeSlip } :=
        (takeCause_noFrame operating (changesCategory_inForce (.inr ⟨state, .inr inForce⟩))).trans
          ((intake_inForce state (.inr inForce)).trans recorded)
      rw [taken]
      exact ⟨rfl, loop⟩
    · rw [controlled] at loop
      have loop : y.loop = s.loop := loop.trans (if_neg fun h => nomatch h.2)
      let u : State := y.withStop { s.stop with later := addLater s.stop.later .brakeSlip }
      obtain ⟨x, hx⟩ := takeCause_eq_withLink (c := .brakeSlip) (src := y.own) operating
      have taken : intake .brakeSlip y.own y = assisted u := by
        rw [intake_assist operating rfl fun _ => by rw [stop]; exact controlled, recorded]
      have brake : u.assistLoop.brake = .set := (congrArg LineLoop.brake loop).trans (hfit.stopped stopped).1
      have supervision : y.loop.supervision = s.loop.supervision := by rw [loop]
      have line := assisted_loop u
      rw [setCommanded_of_set brake] at line
      rw [hx, taken]
      refine ⟨assisted_stop u, congrArg LineLoop.drive line, (congrArg LineLoop.brake line).trans brake,
        (congrArg LineLoop.supervision line).trans supervision, ?_⟩
      have held := assisted_target u
      unfold State.heldByDrive at held ⊢
      rw [show u.creep = s.creep from creep, found.1] at held
      rw [found.1]
      exact held
  · rw [creepCheck_silent fun h => slip h.2]
    have never (cd : Bool) : ¬ (cd = true ∧ s.creep.armed = true ∧
        s.params.creepLimit < ((l : Int) - (s.creep.reference : Int)).natAbs) := fun h => slip (slips.mpr h.2)
    obtain ⟨seq, calm, -⟩ := watch
    exact ⟨rest, seq, fun _ => calm (never false), fun h => absurd h (never true), fun h => absurd h (never true)⟩

theorem State.stoppedSample.worked {l : Nat} {ld cd : Bool} (stopped : s.seq.state = .stopped) (hr : s.recordFits)
    (hfit : s.outputsFit) (e : Bool) (h : s.stoppedSample l ld cd false y) :
    s.stoppedSample l ld cd true (loopWork e y) := by
  obtain ⟨rest, seq, calm, noted, begun⟩ := h
  obtain ⟨-, -, -, -, params, length⟩ := id rest
  have state : y.seq.state = .stopped := by rw [seq]; exact stopped
  obtain ⟨⟨-, -, assist⟩, -⟩ := (recordFits_stopped stopped).mp hr
  have drive : s.loop.drive = true ↔ s.stop.category = .assist := by rw [(hfit.stopped stopped).2]; exact assist
  have loops (h : y.loop = s.loop) : (loopWork e y).loop = if true = true ∧ s.stop.category = .assist then
      (speedCommand s.loop.target false (s.withLen { s.len with measured := l })).loop else s.loop := by
    rw [loopWork_stopped e state, h]
    by_cases on : s.loop.drive = true
    · rw [if_pos on, if_pos ⟨rfl, drive.mp on⟩]
      exact speedCommand_loop_congr _ _ h params length
    · rw [if_neg on, if_neg fun k => on (drive.mpr k.2)]; exact h
  have unworked : (if false = true ∧ s.stop.category = .assist then
      (speedCommand s.loop.target false (s.withLen { s.len with measured := l })).loop else s.loop) = s.loop :=
    if_neg fun h => nomatch h.1
  have only : y.changesOnly [.loop] (loopWork e y) := by
    rw [loopWork_stopped e state]
    split
    · exact speedCommand_only y _ _
    · exact .refl
  refine ⟨rest.same only.mono, only.seq.trans seq, fun h => ?_, fun h other => ?_, fun h controlled => ?_⟩
  · obtain ⟨stop, loop⟩ := calm h
    exact ⟨only.stop.trans stop, loops (loop.trans unworked)⟩
  · obtain ⟨stop, loop⟩ := noted h other
    exact ⟨only.stop.trans stop, loops (loop.trans unworked)⟩
  · obtain ⟨stop, on, brake, supervision, assistTarget, target, previous⟩ := begun h controlled
    have work : loopWork e y = speedCommand y.loop.target false y := (loopWork_stopped e state).trans (if_pos on)
    rw [work]
    exact ⟨stop, on, brake, supervision, assistTarget, target, target⟩

theorem stopped_sample {l : Nat} (stopped : s.seq.state = .stopped) (hr : s.recordFits) (hfit : s.outputsFit)
    {x : LengthReader} (length : x.measured = l) :
    s.stoppedSample l true true true (cycleWork load creep (s.withLen x)) := by
  have still {ld cd wd : Bool} {y : State} (h : s.stoppedSample l ld cd wd y) : y.seq.state = .stopped := by
    rw [h.2.1]; exact stopped
  refine cycleWork_induction (P := fun ld cd wd y => s.stoppedSample l ld cd wd y)
    (fun here h => h.monitored stopped here) (fun h => h.watched stopped hr hfit) (fun h => ?_)
    (fun e h => h.worked stopped hr hfit e) (fun h => ?_)
    (fun h => ⟨h.1.same (composeReport_only _).mono, h.2.same (composeReport_only _).mono⟩) ?_
  · rwa [primedWork_other (by rw [still h]; decide)]
  · rwa [completionTest_other fun flying => by cases (still h).symm.trans flying.1]
  · exact ⟨⟨rfl, rfl, rfl, rfl, rfl, length⟩, rfl, fun _ => ⟨rfl, (if_neg fun h => nomatch h.1).symm⟩,
      fun h => (nomatch h.1), fun h => (nomatch h.1)⟩

/-- Settles O2. -/
theorem heldSampleKeepsTheLine : Obligations.HeldSampleKeepsTheLine := by
  unfold Obligations.HeldSampleKeepsTheLine
  intro w load creep l s quiet reading hr hfit leaves read held overloaded slips cleared
  have parkedDrive (parking : s.seq.state = .parking) : s.loop.drive = true := by
    rw [hfit.drive, State.driveWanted, parking]
  refine ⟨fun parking light => ?_, fun parking heavy => ?_, fun stopped => ?_⟩
  · obtain ⟨x, length, run⟩ := exec_sample load creep quiet reading (by rw [parking]; rfl) leaves
    obtain ⟨⟨gov, load', creep', -⟩, seq, stop, loop⟩ :=
      parked_sample (load := load) (creep := creep) parking (parkedDrive parking) light length
    obtain ⟨z, hz⟩ := beginAttempt_eq_withLink (cycleWork load creep (s.withLen x))
    refine ⟨_, run, ?_⟩
    rw [hz]
    exact ⟨seq, stop, creep', loop, gov, load'⟩
  · obtain ⟨x, length, run⟩ := exec_sample .afterReport creep quiet reading (by rw [parking]; rfl) leaves
    have sample := cycleWork_parked_afterReport (s := s.withLen x) (creep := creep) parking (parkedDrive parking)
    let u := composeReport (speedCommand s.loop.target false (s.withLen x))
    have only : (s.withLen x).changesOnly [.link, .peers, .loop] u :=
      (speedCommand_only _ _ _).next (composeReport_only _)
    have state : u.seq.state = .parking := (congrArg Sequencer.state only.seq).trans parking
    have raised : u.overloads := ⟨by rw [state]; rfl, by rw [state]; decide, by rw [only.params, only.tens]; exact heavy⟩
    have empty : u.loadNoted.recordEmpty := by
      unfold State.recordEmpty
      rw [(loadNoted_only u).stop, only.stop]
      exact (hr.empty (by rw [parking]; rfl)).1
    have own : u.own = s.own := congrArg Params.station only.params
    have stops : loadCheck u = _ := (loadCheck_overload raised).trans
      (takeCause_controlled_inFlight (s := u.loadNoted) u.own rfl rfl
        (by rw [show u.loadNoted.seq.state = _ from state]; rfl) empty)
    have ended : cycleWork .afterReport creep (s.withLen x) = loadCheck u := by
      rw [sample, checksAt_eq]
      show (if _ then creepCheck (loadCheck u) else loadCheck u) = _
      have calm : creepCheck (loadCheck u) = loadCheck u := by
        rw [stops]; exact creepCheck_moving (nomatch ·) (nomatch ·)
      rw [calm, ite_self]
    obtain ⟨z, hz⟩ := beginAttempt_eq_withLink (cycleWork .afterReport creep (s.withLen x))
    refine ⟨_, run, ?_⟩
    rw [hz, ended, stops, loadNoted_unjudged (by rw [state]; decide) (by rw [state]; decide)]
    refine ⟨?_, ?_, only.creep, ?_, ?_, rfl⟩
    · show { u.seq with state := .stopping } = _
      rw [only.seq]; rfl
    · show { u.stop with first := some (.overload, u.own), category := .controlled, phase := .ramping, stopTimer := 0 } = _
      rw [only.stop, own]; rfl
    · show u.loop = held
      rw [(composeReport_only _).loop]
      exact speedCommand_loop_congr _ _ rfl rfl length
    · show ({ u.gov with holds := { u.gov.holds with slack := false, loadBand := false } } : Governor) = cleared
      rw [only.gov]; rfl
  · obtain ⟨x, length, run⟩ := exec_sample load creep quiet reading (by rw [stopped]; rfl) leaves
    obtain ⟨⟨gov, load', creep', -⟩, seq, calm, noted, begun⟩ :=
      stopped_sample (load := load) (creep := creep) stopped hr hfit length
    obtain ⟨z, hz⟩ := beginAttempt_eq_withLink (cycleWork load creep (s.withLen x))
    have worked : (if true = true ∧ s.stop.category = .assist then held else s.loop) =
        if s.stop.category = .assist then held else s.loop := by simp only [true_and]
    refine ⟨_, run, ?_⟩
    rw [hz]
    refine ⟨seq, creep', gov, load', fun h => ?_, fun h other => ?_, fun h controlled => ?_⟩
    · obtain ⟨stop, loop⟩ := calm fun k => h k.2
      exact ⟨stop, loop.trans worked⟩
    · obtain ⟨stop, loop⟩ := noted ⟨rfl, h⟩ other
      exact ⟨stop, loop.trans worked⟩
    · exact begun ⟨rfl, h⟩ controlled

end Sys2Proof.Machine
end

section
/-!
SUPPORT. The cycle computation and what follows it in a length sample: the test for completion, the checks at their
places, and the statements' endings (chapters 6 and 8).
-/

namespace Sys2Proof.Machine

set_option Elab.async false

variable {s t y z : State} {load : CheckPoint} {found : StationState}

/-! ### The cycle computation (R89 to R98) -/

/-- The line target of a computation. -/
def State.nextTarget (s : State) (stopping : Bool) : Nat := s.targetAt (s.nextSegment stopping) (s.newProgress stopping)

/-- The error of a computation. -/
def State.nextError (s : State) (stopping : Bool) : Int := (s.nextTarget stopping : Int) - (s.len.measured : Int)

/-- The computation without its fault. -/
def State.computed (s : State) (stopping entering : Bool) : State :=
  let u := moveProgress stopping s
  judgeFollow (speedCommand (u.targetAt u.gov.k u.gov.q) entering u)

theorem moveProgress_gov (stopping : Bool) (s : State) : (moveProgress stopping s).gov = { s.gov with
    q := s.newProgress stopping
    dPrev := s.newProgress stopping - s.gov.q
    k := s.nextSegment stopping } := rfl

theorem computed_loop (s : State) (stopping entering : Bool) :
    (s.computed stopping entering).loop = (speedCommand (s.nextTarget stopping) entering s).loop :=
  (judgeFollow_only _).loop

theorem computed_only (s : State) (stopping entering : Bool) : s.changesOnly [.gov, .loop] (s.computed stopping entering) :=
  ((moveProgress_only s _).next (speedCommand_only _ _ _) (l := [.gov, .loop])).next (judgeFollow_only _)

theorem computed_gov (s : State) (stopping entering : Bool) : (s.computed stopping entering).gov = { s.gov with
    q := s.newProgress stopping
    dPrev := s.newProgress stopping - s.gov.q
    k := s.nextSegment stopping
    achieved := if (s.nextError stopping).natAbs ≤ s.params.followTol then s.newProgress stopping else s.gov.achieved
    lag := decide (s.params.followTol < (s.nextError stopping).natAbs) } := by
  unfold State.computed
  dsimp only
  let u := moveProgress stopping s
  let v := speedCommand (u.targetAt u.gov.k u.gov.q) entering u
  show (judgeFollow v).gov = _
  have err : v.loop.err = s.nextError stopping := rfl
  unfold judgeFollow
  rw [err]
  show (if (s.nextError stopping).natAbs ≤ s.params.followTol then _ else _ : State).gov = _
  split
  next near => rw [decide_eq_false (Nat.not_lt.mpr near)]; rfl
  next far => rw [decide_eq_true (Nat.lt_of_not_le far)]; rfl

theorem computed_err (s : State) (stopping entering : Bool) :
    (s.computed stopping entering).loop.err = s.nextError stopping := by rw [computed_loop]; rfl

theorem cycleComputation_eq (s : State) (stopping entering : Bool) :
    cycleComputation stopping entering s = judgeTrip (s.computed stopping entering) := rfl

theorem cycleComputation_follows {stopping entering : Bool} (h : (s.nextError stopping).natAbs ≤ s.params.tripTol) :
    cycleComputation stopping entering s = s.computed stopping entering := by
  rw [cycleComputation_eq]
  exact if_neg (by rw [computed_err, (computed_only _ _ _).params]; exact Nat.not_lt.mpr h)

theorem cycleComputation_trips {stopping entering : Bool} (h : s.params.tripTol < (s.nextError stopping).natAbs) :
    cycleComputation stopping entering s = takeCause .followTrip s.own (s.computed stopping entering) := by
  rw [cycleComputation_eq]
  refine (if_pos (by rw [computed_err, (computed_only _ _ _).params]; exact h)).trans ?_
  rw [show (s.computed stopping entering).own = s.own from congrArg Params.station (computed_only _ _ _).params]

/-! ### The test for completion (R19, R20, R95) -/

theorem enterParking_gov (s : State) : (enterParking s).gov = { s.gov with dPrev := 0 } := by
  rw [enterParking_eq, (commandBrake_only _ _).gov]; rfl

/-- A park from a released brake: straight through to READY where the sample shows set. -/
theorem enterParking_ends (released : s.loop.brake = .release) :
    (enterParking s).seq = { s.seq with state := if s.loop.brakeSample = .set then .ready else .parking } ∧
      (enterParking s).loop.brake = .set ∧ (enterParking s).loop.target = s.loop.target ∧
      (enterParking s).loop.err = s.loop.err ∧
      ((enterParking s).loop.drive = true ↔ s.loop.brakeSample = .released ∧ s.loop.drive = true) := by
  rw [enterParking_released (by rw [released]; decide)]
  cases sample : s.loop.brakeSample with
  | set => exact ⟨rfl, rfl, rfl, rfl, (nomatch ·), fun h => nomatch h.1⟩
  | released => exact ⟨rfl, rfl, rfl, rfl, fun h => ⟨rfl, h⟩, And.right⟩

theorem completionTest_completes (h : s.seq.state = .flying ∧ s.gov.achieved = s.cueEnd) :
    completionTest s = enterParking (s.withSeq { s.seq with complete := true }) := if_pos h

theorem completionTest_holds (s : State) : (completionTest s).gov.holds = s.gov.holds := by
  unfold completionTest
  split
  · rw [enterParking_gov]; rfl
  · rfl

/-- The test for completion leaves a station that flies as it was. -/
theorem completionTest_flying (h : (completionTest s).seq.state = .flying) : completionTest s = s := by
  by_cases complete : s.seq.state = .flying ∧ s.gov.achieved = s.cueEnd
  · rw [completionTest_completes complete] at h
    rcases enterParking_state (s.withSeq { s.seq with complete := true }) with park | park <;> cases park.symm.trans h
  · exact completionTest_other complete

/-! ### The Load Monitor's notes -/

/-- The state with other hold reasons and another counter. -/
def State.withNotes (holds : Holds) (load : LoadMonitor) (s : State) : State :=
  (s.withGov { s.gov with holds := holds }).withLoad load

theorem enterParking_withNotes (h : Holds) (n : LoadMonitor) (s : State) :
    enterParking (s.withNotes h n) = (enterParking s).withNotes h n := by
  by_cases hb : s.loop.brake = .set
  · rw [enterParking_eq, enterParking_eq, commandBrake_same (s := (s.withNotes h n).parkingEntry) hb,
      commandBrake_same (s := s.parkingEntry) hb]
    rfl
  · rw [enterParking_released hb, enterParking_released (s := s.withNotes h n) hb]
    show (if s.loop.brakeSample = .set then _ else _) = _
    split <;> rfl

theorem completionTest_withNotes (h : Holds) (n : LoadMonitor) (s : State) :
    completionTest (s.withNotes h n) = (completionTest s).withNotes h n := by
  by_cases complete : s.seq.state = .flying ∧ s.gov.achieved = s.cueEnd
  · rw [completionTest_completes complete, completionTest_completes (s := s.withNotes h n) complete]
    exact enterParking_withNotes h n (s.withSeq { s.seq with complete := true })
  · rw [completionTest_other complete, completionTest_other (s := s.withNotes h n) complete]

/-- The counter of a check in FLYING stands at its limit. -/
theorem State.weighsAs.due (h : s.weighsAs y) (flying : y.seq.state = .flying) :
    y.loadNoted.load.slackDue = true ↔ s.slackEnds := by
  have slack := h.slack
  obtain ⟨-, params, -, counter, -⟩ := h
  show (decide (y.seq.state = .flying) && decide (y.params.slackLimit ≤ y.slackCount)) = true ↔ _
  rw [Bool.and_eq_true, decide_eq_true_iff, decide_eq_true_iff, State.slackCount, params, counter, State.slackEnds, ← slack]
  by_cases low : y.slackNow = true
  · rw [if_pos ⟨flying, low⟩]
    simp only [flying, low, true_and]
    omega
  · rw [if_neg fun h => low h.2]
    exact ⟨fun h => .inr (Nat.le_zero.mp h.2), fun h => ⟨flying, h.elim (fun k => absurd k.1 low) Nat.le_of_eq⟩⟩

/-- The Load Monitor's work where it raises nothing. -/
theorem loadMonitorAt_silent (here : CheckPoint) (h : s.weighsAs y) (light : ¬ y.overloads)
    (few : here = .afterReport ∨ (y.seq.state = .flying → ¬ s.slackEnds)) : loadMonitorAt here y = y.loadNoted := by
  by_cases flying : y.seq.state = .flying
  · unfold loadMonitorAt
    rw [loadCheck_silent light]
    split
    · rfl
    next inside =>
      refine slackTimeoutWork_notDue (Bool.eq_false_iff.mpr fun due => ?_)
      exact (few.resolve_left inside) flying ((h.due flying).mp due)
  · rw [loadMonitorAt_notFlying here flying, loadCheck_silent light]

/-! ### The ending of a sample -/

/-- `t` is what a sample makes of `z`, which the tests have left, once the Load Monitor's notes of a check in the
station state `found` are written and the REPORT is out. -/
def State.endsQuietly (s : State) (found : StationState) (z t : State) : Prop :=
  t.seq = z.seq ∧ t.stop = z.stop ∧ t.loop = z.loop ∧ t.creep = z.creep ∧
    t.gov = { z.gov with holds := t.gov.holds } ∧ s.loadWritten found t ∧
    (z.link.line = .busy → t.link.line = .busy ∧ t.link.stopSlot = z.link.stopSlot)

theorem State.endsQuietly.reported {v : State} (h : s.endsQuietly found z t) (r : t.reportedAs v) :
    s.endsQuietly found z v := by
  obtain ⟨seq, stop, loop, creep, gov, written, line⟩ := h
  obtain ⟨only, -, line'⟩ := r
  refine ⟨only.seq.trans seq, only.stop.trans stop, only.loop.trans loop, only.creep.trans creep, ?_,
    written.same (congrArg Governor.holds only.gov) only.load, fun busy => ?_⟩
  · rw [only.gov]; exact gov
  · obtain ⟨busy', slot⟩ := line busy
    exact ⟨(line' busy').1, (line' busy').2.trans slot⟩

theorem State.weighsAs.completion (h : s.weighsAs y) : s.weighsAs (completionTest y) := by
  obtain ⟨tens, params, members, load, holds⟩ := h
  have only := completionTest_only y
  refine ⟨only.tens.trans tens, only.params.trans params, ?_, only.load.trans load, (completionTest_holds y).trans holds⟩
  rw [← members]
  unfold State.members State.isMember State.isPeer State.own State.ownGroup State.groupOf State.own
  rw [only.peers, only.params]

theorem State.weighsAs.reported (h : s.weighsAs y) (r : y.reportedAs z) : s.weighsAs z := by
  obtain ⟨tens, params, members, load, holds⟩ := h
  obtain ⟨only, members', -⟩ := r
  exact ⟨only.tens.trans tens, only.params.trans params, members'.trans members, only.load.trans load,
    (congrArg Governor.holds only.gov).trans holds⟩

/-- A place before the computation. -/
abbrev earlyPlace (load : CheckPoint) : Prop := load = .beforeSequencer ∨ load = .beforeComputation

theorem withNotes_endsQuietly (h : Holds) (n : LoadMonitor) (written : s.loadWritten found (z.withNotes h n)) :
    s.endsQuietly found z (z.withNotes h n) :=
  ⟨rfl, rfl, rfl, rfl, rfl, written, fun busy => ⟨busy, rfl⟩⟩

/-- The end of a sample in which the Load Monitor raises nothing after the computation. -/
theorem finish_quietly (early : earlyPlace load → s.loadWritten found y) (late : ¬ earlyPlace load → s.weighsAs y)
    (light : earlyPlace load ∨ ¬ y.overloads ∧ ¬ (completionTest y).overloads)
    (few : earlyPlace load ∨ load = .afterReport ∨ (y.seq.state = .flying → ¬ s.slackEnds)) :
    s.endsQuietly (if earlyPlace load then found else if load = CheckPoint.beforeCompletion then y.seq.state
      else (completionTest y).seq.state) (completionTest y) (beginAttempt (finish load .beforeSequencer y)) := by
  refine State.endsQuietly.reported ?_ (beginAttempt_reported _)
  let z := completionTest y
  cases load with
  | beforeSequencer | beforeComputation =>
    have written := early (by decide)
    rw [if_pos (by decide)]
    exact State.endsQuietly.reported (t := z) (withNotes_endsQuietly z.gov.holds z.load
      (written.same (completionTest_holds y) (completionTest_only y).load)) (composeReport_reported z)
  | beforeCompletion =>
    have weighs := late (by decide)
    have noted : completionTest (loadMonitorAt .beforeCompletion y) = z.withNotes y.loadHolds y.loadNoted.load := by
      rw [loadMonitorAt_silent _ weighs (light.resolve_left (by decide)).1 (few.resolve_left (by decide))]
      exact completionTest_withNotes _ _ _
    show s.endsQuietly _ z (composeReport (completionTest (loadMonitorAt .beforeCompletion y)))
    rw [noted, if_neg (by decide), if_pos rfl]
    exact (withNotes_endsQuietly (z := z) y.loadHolds y.loadNoted.load (weighs.written.same rfl rfl)).reported
      (composeReport_reported _)
  | beforeReport =>
    have weighs := (late (by decide)).completion
    have noted : loadMonitorAt .beforeReport z = z.loadNoted :=
      loadMonitorAt_silent _ weighs (light.resolve_left (by decide)).2 (.inr fun flying => by
        have same : z = y := completionTest_flying flying
        exact ((few.resolve_left (by decide)).resolve_left (by decide)) (by rw [← same]; exact flying))
    show s.endsQuietly _ z (composeReport (loadMonitorAt .beforeReport z))
    rw [noted, if_neg (by decide), if_neg (by decide)]
    exact (withNotes_endsQuietly z.loadHolds z.loadNoted.load weighs.written).reported (composeReport_reported _)
  | afterReport =>
    have r := composeReport_reported z
    have weighs := (late (by decide)).completion.reported r
    have light : ¬ (composeReport z).overloads := by
      unfold State.overloads
      rw [r.1.seq, r.1.params, r.1.tens]
      exact (light.resolve_left (by decide)).2
    have noted : loadMonitorAt .afterReport (composeReport z) = (composeReport z).loadNoted :=
      loadMonitorAt_silent _ weighs light (.inl rfl)
    show s.endsQuietly _ z (loadMonitorAt .afterReport (composeReport z))
    rw [noted, if_neg (by decide), if_neg (by decide)]
    have written := weighs.written
    obtain ⟨only, -, line⟩ := r
    rw [only.seq] at written
    refine ⟨only.seq, only.stop, only.loop, only.creep, ?_, written, line⟩
    show ({ (composeReport z).gov with holds := (composeReport z).loadHolds } : Governor) = _
    rw [only.gov]; rfl

/-! ### OVERLOAD at the end of a sample (R129, R140, R141) -/

/-- What an ending keeps of the state that the tests have left. -/
def State.keepsLine (z t : State) : Prop :=
  t.loop = z.loop ∧ t.creep = z.creep ∧ t.gov = { z.gov with holds := t.gov.holds }

theorem State.endsQuietly.keeps (h : s.endsQuietly found z t) : z.keepsLine t := by
  obtain ⟨-, -, loop, creep, gov, -⟩ := h
  exact ⟨loop, creep, gov⟩

theorem State.endsQuietly.endsIn (h : s.endsQuietly found z t) (light : ¬ s.params.tMax < s.tens.latched)
    (stop : z.stop = s.stop) : s.endsIn found z.seq t := by
  obtain ⟨seq, stop', -, -, -, written, -⟩ := h
  exact ⟨written, fun _ => ⟨seq, stop'.trans stop⟩, fun above => absurd above light⟩

theorem State.endsIn.reported {left : Sequencer} {v : State} (h : s.endsIn found left t) (r : t.reportedAs v)
    (line : s.link.line = .busy → t.link.line = .busy) : s.endsIn found left v := by
  obtain ⟨written, calm, stops⟩ := h
  obtain ⟨only, -, slot⟩ := r
  unfold State.endsIn
  rw [only.seq, only.stop]
  refine ⟨written.same (congrArg Governor.holds only.gov) only.load, calm, fun above => ?_⟩
  obtain ⟨seq, first, later, category, assist, phase, stopSlot⟩ := stops above
  exact ⟨seq, first, later, category, assist, phase, fun busy => (slot (line busy)).2.trans (stopSlot busy)⟩

theorem State.keepsLine.reported {v : State} (h : z.keepsLine t) (r : t.reportedAs v) : z.keepsLine v := by
  obtain ⟨only, -⟩ := r
  unfold State.keepsLine
  rw [only.loop, only.creep, only.gov]
  exact h

theorem State.keepsLine.before {v : State} (h : y.keepsLine t) (r : v.reportedAs y) : v.keepsLine t := by
  obtain ⟨only, -⟩ := r
  unfold State.keepsLine at *
  rw [only.loop, only.creep, only.gov] at h
  exact h

/-- OVERLOAD found in a station that no stop has begun in ends the sample as the statements say it. -/
theorem overload_endsIn (hr : s.recordEmpty) (weighs : s.weighsAs y) (stop : y.stop = s.stop)
    (line : s.link.line = .busy → y.link.line = .busy ∧ y.link.stopSlot = s.link.stopSlot)
    (state : y.seq.state = .ready ∨ y.seq.state.inFlight = true)
    (above : s.params.tMax < s.tens.latched) :
    s.endsIn y.seq.state y.seq (loadCheck y) ∧ y.keepsLine (loadCheck y) ∧
      (s.link.line = .busy → (loadCheck y).link.line = .busy) := by
  obtain ⟨tens, params, -⟩ := id weighs
  have own : y.own = s.own := congrArg Params.station params
  have operating : y.seq.state.operating = true := by
    rcases state with h | h
    · rw [h]; rfl
    · cases hst : y.seq.state with
      | primed | flying | parking => rfl
      | start | ready | stopping | stopped | locked => rw [hst] at h; cases h
  have running : y.seq.state ≠ .stopped := fun h => by rw [h] at state; rcases state with h | h <;> cases h
  have raised : y.overloads := ⟨operating, running, by rw [tens, params]; exact above⟩
  have empty : y.loadNoted.recordEmpty := by
    unfold State.recordEmpty; rw [(loadNoted_only y).stop, stop]; exact hr
  rw [loadCheck_overload raised]
  obtain ⟨first, later, frame, -, controlled, -⟩ :=
    takeCause_opens (s := y.loadNoted) (c := .overload) (src := y.own) state empty
  obtain ⟨category, assist, loop, creep, ready, moving⟩ := controlled rfl
  have only := takeCause_only y.loadNoted .overload y.own
  refine ⟨⟨weighs.written.same (congrArg Governor.holds only.gov) only.load, fun light => absurd above (Nat.not_lt.mpr light),
    fun _ => ⟨?_, by rw [first, own], later, category, assist, fun h => ?_, fun busy => ?_⟩⟩, ⟨loop, creep, ?_⟩,
    fun busy => ?_⟩
  · split
    next h => exact ready h
    next h => exact (moving h).1
  · exact (moving h).2
  · rw [frame.1 rfl]
    show y.link.stopSlot.request (stopBody y.ownGroup 5 y.own) = _
    have group : y.ownGroup = s.ownGroup := by unfold State.ownGroup State.groupOf State.own; rw [params]
    rw [(line busy).2, own, group]
  · rw [only.gov]; rfl
  · exact (takeCause_line _ _ _).trans (line busy).1

/-- The end of a sample that no stop has begun in, with OVERLOAD at a place after the computation, or nothing. -/
theorem finish_endsIn (hr : s.recordEmpty) (stop : y.stop = s.stop) (link : y.link = s.link)
    (state : (completionTest y).seq.state = .ready ∨ (completionTest y).seq.state.inFlight = true)
    (params : y.params = s.params) (tens : y.tens = s.tens)
    (early : earlyPlace load → s.loadWritten found y ∧ ¬ s.params.tMax < s.tens.latched)
    (late : ¬ earlyPlace load → s.weighsAs y)
    (calm : earlyPlace load ∨ load = .afterReport ∨ y.seq.state ≠ .flying ∨
      ¬ s.params.tMax < s.tens.latched ∧ ¬ s.slackEnds) :
    let t := beginAttempt (finish load .beforeSequencer y)
    s.endsIn (if earlyPlace load then found else if load = CheckPoint.beforeCompletion then y.seq.state
      else (completionTest y).seq.state) (completionTest y).seq t ∧ (completionTest y).keepsLine t := by
  let z := completionTest y
  have only := completionTest_only y
  have zstop : z.stop = s.stop := only.stop.trans stop
  have zlink : z.link = s.link := only.link.trans link
  by_cases above : s.params.tMax < s.tens.latched
  · have notEarly : ¬ earlyPlace load := fun h => (early h).2 above
    have weighs := late notEarly
    have ends {v : State} (h : s.endsIn z.seq.state z.seq v ∧ z.keepsLine v ∧ (s.link.line = .busy → v.link.line = .busy))
        {w : State} (r : v.reportedAs w) : s.endsIn z.seq.state z.seq w ∧ z.keepsLine w := by
      obtain ⟨ends, keeps, line⟩ := h
      exact ⟨ends.reported r line, keeps.reported r⟩
    have atEnd := overload_endsIn hr weighs.completion zstop
      (fun busy => by rw [show (completionTest y).link = _ from zlink]; exact ⟨busy, rfl⟩) state above
    rw [if_neg notEarly]
    cases load with
    | beforeSequencer | beforeComputation => exact absurd (by decide) notEarly
    | beforeCompletion =>
      have still : y.seq.state ≠ .flying := (calm.resolve_left notEarly).resolve_left (by decide) |>.resolve_right
        fun h => h.1 above
      have same : z = y := completionTest_other fun h => still h.1
      have moved : (loadCheck z).seq.state ≠ .flying := by
        obtain ⟨⟨-, -, stops⟩, -⟩ := atEnd
        obtain ⟨seq, -⟩ := stops above
        rw [seq]
        show (if _ then StationState.stopped else StationState.stopping) ≠ _
        split <;> decide
      have run : finish .beforeCompletion .beforeSequencer y = composeReport (loadCheck z) := by
        show composeReport (completionTest (loadMonitorAt .beforeCompletion y)) = _
        rw [loadMonitorAt_notFlying _ still, ← same, completionTest_other fun h => moved h.1]
      rw [if_pos rfl, run, ← congrArg (fun v => v.seq.state) same]
      exact ends atEnd ((composeReport_reported _).trans (beginAttempt_reported _))
    | beforeReport =>
      have still : y.seq.state ≠ .flying := (calm.resolve_left notEarly).resolve_left (by decide) |>.resolve_right
        fun h => h.1 above
      have same : z = y := completionTest_other fun h => still h.1
      have run : finish .beforeReport .beforeSequencer y = composeReport (loadCheck z) := by
        show composeReport (loadMonitorAt .beforeReport z) = _
        rw [loadMonitorAt_notFlying _ (by rw [same]; exact still)]
      rw [if_neg (by decide), run]
      exact ends atEnd ((composeReport_reported _).trans (beginAttempt_reported _))
    | afterReport =>
      have r := composeReport_reported z
      obtain ⟨endsIn, keeps, busy⟩ := overload_endsIn (y := composeReport z) hr (weighs.completion.reported r)
        (r.1.stop.trans zstop) (fun busy => by rw [← zlink] at busy ⊢; exact r.2.2 busy)
        (by rw [r.1.seq]; exact state) above
      rw [r.1.seq] at endsIn
      rw [if_neg (by decide)]
      exact ends ⟨endsIn, keeps.before r, busy⟩ (beginAttempt_reported (loadCheck (composeReport z)))
  · have quietly := finish_quietly (fun h => (early h).1) late
      (.inr ⟨fun h => above (by rw [← params, ← tens]; exact h.2.2),
        fun h => above (by rw [← params, ← tens, ← only.params, ← only.tens]; exact h.2.2)⟩)
      (calm.imp_right fun h => h.imp_right fun h flying => h.elim (absurd flying) And.right)
    exact ⟨quietly.endsIn above zstop, quietly.keeps⟩

end Sys2Proof.Machine
end

section
/-!
SUPPORT. The length samples of a flight (chapters 1, 6, 7 and 8).
-/

namespace Sys2Proof.Machine

set_option Elab.async false

variable {s t v y z : State} {load : CheckPoint} {found : StationState}

theorem State.weighsAs.of (h : s.weighsAs y) (tens : z.tens = y.tens) (params : z.params = y.params)
    (peers : z.peers = y.peers) (load : z.load = y.load) (holds : z.gov.holds = y.gov.holds) : s.weighsAs z := by
  obtain ⟨tens', params', members, load', holds'⟩ := h
  refine ⟨tens.trans tens', params.trans params', ?_, load.trans load', holds.trans holds'⟩
  rw [← members]
  unfold State.members State.isMember State.isPeer State.own State.ownGroup State.groupOf State.own
  rw [peers, params]

theorem computed_holds (s : State) (stopping entering : Bool) :
    (s.computed stopping entering).gov.holds = s.gov.holds := by rw [computed_gov]

theorem computed_brake (s : State) (stopping entering : Bool) :
    (s.computed stopping entering).loop.brake = s.loop.brake ∧
      (s.computed stopping entering).loop.brakeSample = s.loop.brakeSample ∧
      (s.computed stopping entering).loop.drive = s.loop.drive ∧
      (s.computed stopping entering).loop.supervision = s.loop.supervision := by
  rw [computed_loop]; exact ⟨rfl, rfl, rfl, rfl⟩

theorem cueEnd_computed (s : State) (stopping entering : Bool) : (s.computed stopping entering).cueEnd = s.cueEnd := by
  unfold State.cueEnd State.currentEntry
  rw [computed_gov, (computed_only s stopping entering).path]

/-- A station that flies, with nothing begun by the Load Monitor: `s` gives what the statements say the checks by. -/
structure Flies (s : State) (load : CheckPoint) (found : StationState) (v : State) : Prop where
  empty : s.recordEmpty
  flying : v.seq.state = .flying
  stop : v.stop = s.stop
  link : v.link = s.link
  params : v.params = s.params
  tens : v.tens = s.tens
  brake : v.loop.brake = .release
  drive : v.loop.drive = true
  early : earlyPlace load → s.loadWritten found v ∧ ¬ s.params.tMax < s.tens.latched
  late : ¬ earlyPlace load → s.weighsAs v

/-- Achieved progress after a computation in FLYING. -/
def State.flownTo (v : State) : Nat :=
  if (v.nextError false).natAbs ≤ v.params.followTol then v.newProgress false else v.gov.achieved

theorem loopWork_flying (e : Bool) (h : v.seq.state = .flying) : loopWork e v = cycleComputation false e v := by
  unfold loopWork; rw [h]

/-- FOLLOW_TRIP from FLYING stops the station on its brake (Table 9-3). -/
theorem takeCause_followTrip (hr : s.recordEmpty) (flying : s.seq.state = .flying) (src : Nat) :
    let t := takeCause .followTrip src s
    t.seq = { s.seq with state := .stopped } ∧ t.stop.first = some (.followTrip, src) ∧ t.stop.later = 0#24 ∧
      t.stop.category = .immediate ∧ t.loop.drive = false ∧ t.loop.brake = .set ∧ t.loop.duty = 512 ∧
      t.loop.target = s.loop.target ∧ t.loop.err = s.loop.err := by
  obtain ⟨first, later, -, -, -, immediate, -⟩ :=
    takeCause_opens (s := s) (c := .followTrip) (src := src) (.inr (by rw [flying]; rfl)) hr
  obtain ⟨category, -, seq, ⟨brake, drive, -⟩, duty, -⟩ := immediate rfl
  have operating : s.seq.state.operating = true := by rw [flying]; rfl
  obtain ⟨x, hx⟩ := takeCause_eq_withLink (c := .followTrip) (src := src) operating
  have loop : (takeCause .followTrip src s).loop =
      LineLoop.setCommanded { s.loop with drive := false, duty := 512, speed := 0 } := by
    rw [hx, intake_immediate operating rfl fun h => nomatch flying.symm.trans h]
    exact dropped_loop _
  have targets := (setCommanded_targets { s.loop with drive := false, duty := 512, speed := 0 }).1
  have err (l : LineLoop) : l.setCommanded.err = l.err := by unfold LineLoop.setCommanded; split <;> rfl
  exact ⟨seq, first, later, category, drive, brake, duty, by rw [loop, targets], by rw [loop, err]⟩

/-- The sample of a flight whose error is above the trip tolerance. -/
theorem Flies.trips (h : Flies s load found v) (e : Bool) (trip : v.params.tripTol < (v.nextError false).natAbs) :
    s.endsQuietly (if earlyPlace load then found else .stopped)
      (takeCause .followTrip v.own (v.computed false e)) (beginAttempt (finish load .beforeSequencer (loopWork e v))) := by
  let c := v.computed false e
  let y := takeCause .followTrip v.own c
  have run : loopWork e v = y := (loopWork_flying e h.flying).trans (cycleComputation_trips trip)
  have changes := computed_only v false e
  have only := takeCause_only c .followTrip v.own
  have empty : c.recordEmpty := by
    unfold State.recordEmpty; rw [changes.stop, h.stop]; exact h.empty
  obtain ⟨seq, -⟩ := takeCause_followTrip empty (by rw [changes.seq]; exact h.flying) v.own
  have stopped : y.seq.state = .stopped := congrArg Sequencer.state seq
  have same : completionTest y = y := completionTest_other fun k => by cases stopped.symm.trans k.1
  have holds : y.gov.holds = v.gov.holds := (congrArg Governor.holds only.gov).trans (computed_holds v false e)
  have ends := finish_quietly (s := s) (y := y) (load := load) (found := found)
    (fun k => (h.early k).1.same holds (only.load.trans changes.load))
    (fun k => (h.late k).of (only.tens.trans changes.tens) (only.params.trans changes.params)
      (only.peers.trans changes.peers) (only.load.trans changes.load) holds)
    (.inr ⟨fun k => k.2.1 stopped, fun k => by rw [same] at k; exact k.2.1 stopped⟩)
    (.inr (.inr fun k => by cases stopped.symm.trans k))
  rw [same, stopped, ite_self] at ends
  rw [run]
  exact ends

/-- The sample of a flight that follows its line. -/
theorem Flies.follows (h : Flies s load found v) (e : Bool) (near : (v.nextError false).natAbs ≤ v.params.tripTol)
    (calm : load = .afterReport ∨ ¬ s.params.tMax < s.tens.latched ∧ ¬ s.slackEnds) :
    let z := completionTest (v.computed false e)
    let t := beginAttempt (finish load .beforeSequencer (loopWork e v))
    s.endsIn (if earlyPlace load then found else if load = CheckPoint.beforeCompletion then .flying else z.seq.state)
      z.seq t ∧ z.keepsLine t := by
  let c := v.computed false e
  have run : loopWork e v = c := (loopWork_flying e h.flying).trans (cycleComputation_follows near)
  have changes := computed_only v false e
  have flying : c.seq.state = .flying := by rw [changes.seq]; exact h.flying
  have state : (completionTest c).seq.state = .ready ∨ (completionTest c).seq.state.inFlight = true := by
    by_cases complete : c.seq.state = .flying ∧ c.gov.achieved = c.cueEnd
    · rw [completionTest_completes complete]
      rcases enterParking_state (c.withSeq { c.seq with complete := true }) with k | k <;> rw [k]
      · exact .inr rfl
      · exact .inl rfl
    · rw [completionTest_other complete, flying]; exact .inr rfl
  have ends := finish_endsIn (s := s) (y := c) (load := load) (found := found) h.empty (changes.stop.trans h.stop)
    (changes.link.trans h.link) state (changes.params.trans h.params) (changes.tens.trans h.tens)
    (fun k => ⟨(h.early k).1.same (computed_holds v false e) changes.load, (h.early k).2⟩)
    (fun k => (h.late k).of changes.tens changes.params changes.peers changes.load (computed_holds v false e))
    (calm.elim (fun k => .inr (.inl k)) fun k => .inr (.inr (.inr k)))
  rw [run]
  rw [flying] at ends
  exact ends

/-- The state that the test for completion leaves of a flight that follows its line. -/
theorem Flies.completes (h : Flies s load found v) (e : Bool) (done : v.flownTo = v.cueEnd) :
    let z := completionTest (v.computed false e)
    z.seq = { v.seq with complete := true, state := if v.loop.brakeSample = .set then .ready else .parking } ∧
      z.gov = { (v.computed false e).gov with dPrev := 0 } ∧ z.loop.brake = .set ∧
      z.loop.target = v.nextTarget false ∧ z.loop.err = v.nextError false ∧
      (z.loop.drive = true ↔ v.loop.brakeSample = .released) := by
  let c := v.computed false e
  have changes := computed_only v false e
  obtain ⟨brake, sample, drive, -⟩ := computed_brake v false e
  have complete : c.seq.state = .flying ∧ c.gov.achieved = c.cueEnd := by
    rw [changes.seq, cueEnd_computed, computed_gov]; exact ⟨h.flying, done⟩
  intro z
  have parks : z = enterParking (c.withSeq { c.seq with complete := true }) := completionTest_completes complete
  obtain ⟨seq, set, target, err, on⟩ := enterParking_ends (s := c.withSeq { c.seq with complete := true })
    (brake.trans h.brake)
  rw [parks]
  refine ⟨?_, enterParking_gov _, set, ?_, ?_, ?_⟩
  · rw [seq]
    show ({ c.seq with
      complete := true
      state := if c.loop.brakeSample = Feedback.set then StationState.ready else StationState.parking } : Sequencer) = _
    rw [changes.seq, sample]
  · rw [target]
    show c.loop.target = _
    rw [computed_loop]; rfl
  · exact err.trans (computed_err v false e)
  · rw [on]
    show c.loop.brakeSample = .released ∧ c.loop.drive = true ↔ _
    rw [sample, drive, h.drive]
    exact and_iff_left rfl

theorem completionTest_goesOn (e : Bool) (short : v.flownTo ≠ v.cueEnd) :
    completionTest (v.computed false e) = v.computed false e := by
  refine completionTest_other fun k => short ?_
  obtain ⟨-, k⟩ := k
  rw [cueEnd_computed, computed_gov] at k
  exact k

/-- What the statements say of a flight's sample, in the words of the state `v` that its computation finds. -/
theorem Flies.sample (h : Flies s load found v) (e : Bool)
    (calm : load = .afterReport ∨ ¬ s.params.tMax < s.tens.latched ∧ ¬ s.slackEnds) :
    let t := beginAttempt (finish load .beforeSequencer (loopWork e v))
    let error := (v.nextError false).natAbs
    let parked : StationState := if v.loop.brakeSample = .set then .ready else .parking
    (t.gov.q = v.newProgress false ∧ t.gov.k = v.nextSegment false ∧ t.gov.cue = v.gov.cue ∧
      t.gov.achieved = v.flownTo ∧ (t.gov.lag = true ↔ v.params.followTol < error) ∧
      t.loop.target = v.nextTarget false ∧ t.loop.err = v.nextError false) ∧
    (error ≤ v.params.tripTol → v.flownTo ≠ v.cueEnd →
      s.endsIn (if earlyPlace load then found else .flying) v.seq t ∧ t.creep = v.creep ∧
        t.loop = (speedCommand (v.nextTarget false) e v).loop ∧ t.gov.dPrev = v.newProgress false - v.gov.q) ∧
    (error ≤ v.params.tripTol → v.flownTo = v.cueEnd →
      s.endsIn (if earlyPlace load then found else if load = CheckPoint.beforeCompletion then .flying else parked)
          { v.seq with complete := true, state := parked } t ∧
        t.gov.dPrev = 0 ∧ t.loop.brake = .set ∧ (t.loop.drive = true ↔ v.loop.brakeSample = .released)) ∧
    (v.params.tripTol < error →
      s.loadWritten (if earlyPlace load then found else .stopped) t ∧
        t.seq = { v.seq with state := .stopped } ∧ t.stop.first = some (.followTrip, v.own) ∧
        t.stop.later = 0#24 ∧ t.stop.category = .immediate ∧ t.gov.dPrev = v.newProgress false - v.gov.q ∧
        t.loop.drive = false ∧ t.loop.brake = .set ∧ t.loop.duty = 512) := by
  intro t error parked
  let c := v.computed false e
  have changes : v.changesOnly [.gov, .loop] c := computed_only v false e
  have cgov : c.gov = _ := computed_gov v false e
  have moved {d : Nat} (gov : t.gov = { c.gov with dPrev := d, holds := t.gov.holds }) :
      t.gov.q = v.newProgress false ∧ t.gov.k = v.nextSegment false ∧ t.gov.cue = v.gov.cue ∧
        t.gov.achieved = v.flownTo ∧ (t.gov.lag = true ↔ v.params.followTol < error) := by
    rw [gov, cgov]
    exact ⟨rfl, rfl, rfl, rfl, decide_eq_true_iff⟩
  have target : c.loop.target = v.nextTarget false := by
    show (v.computed false e).loop.target = _
    rw [computed_loop]; rfl
  have err : c.loop.err = v.nextError false := computed_err v false e
  by_cases trip : v.params.tripTol < error
  · obtain ⟨seq, stop, loop, creep, gov, written, -⟩ := h.trips e trip
    have empty : c.recordEmpty := by unfold State.recordEmpty; rw [changes.stop, h.stop]; exact h.empty
    obtain ⟨stopped, first, later, category, drive, brake, duty, aim, miss⟩ :=
      takeCause_followTrip empty (by rw [changes.seq]; exact h.flying) v.own
    have gov : t.gov = { c.gov with holds := t.gov.holds } := by
      rw [(takeCause_only c .followTrip v.own).gov] at gov; exact gov
    obtain ⟨q, k, cue, achieved, lag⟩ := moved (d := c.gov.dPrev) gov
    have far : ¬ error ≤ v.params.tripTol := Nat.not_le.mpr trip
    refine ⟨⟨q, k, cue, achieved, lag, ?_, ?_⟩, fun near => absurd near far, fun near => absurd near far, fun _ =>
      ⟨written, ?_, ?_, ?_, ?_, ?_, ?_, ?_, ?_⟩⟩
    · exact (congrArg LineLoop.target loop).trans (aim.trans target)
    · exact (congrArg LineLoop.err loop).trans (miss.trans err)
    · rw [seq, stopped, changes.seq]
    · exact (congrArg StopController.first stop).trans first
    · exact (congrArg StopController.later stop).trans later
    · exact (congrArg StopController.category stop).trans category
    · rw [gov, cgov]
    · exact (congrArg LineLoop.drive loop).trans drive
    · exact (congrArg LineLoop.brake loop).trans brake
    · exact (congrArg LineLoop.duty loop).trans duty
  · have near : error ≤ v.params.tripTol := Nat.not_lt.mp trip
    obtain ⟨ends, loop, creep, gov⟩ := h.follows e near calm
    by_cases done : v.flownTo = v.cueEnd
    · obtain ⟨seq, zgov, brake, aim, miss, drive⟩ := h.completes e done
      rw [seq] at ends
      rw [zgov] at gov
      obtain ⟨q, k, cue, achieved, lag⟩ := moved (d := 0) gov
      refine ⟨⟨q, k, cue, achieved, lag, ?_, ?_⟩, fun _ short => absurd done short, fun _ _ => ⟨ends, ?_, ?_, ?_⟩,
        fun far => absurd far trip⟩
      · exact (congrArg LineLoop.target loop).trans aim
      · exact (congrArg LineLoop.err loop).trans miss
      · exact congrArg Governor.dPrev gov
      · exact (congrArg LineLoop.brake loop).trans brake
      · show (beginAttempt (finish load .beforeSequencer (loopWork e v))).loop.drive = true ↔ _
        rw [loop]; exact drive
    · have same : completionTest c = c := completionTest_goesOn e done
      have state : c.seq.state = .flying := by rw [changes.seq]; exact h.flying
      rw [show completionTest (v.computed false e) = c from same] at ends loop creep gov
      rw [state, ite_self, changes.seq] at ends
      obtain ⟨q, k, cue, achieved, lag⟩ := moved (d := c.gov.dPrev) gov
      refine ⟨⟨q, k, cue, achieved, lag, ?_, ?_⟩, fun _ _ => ⟨ends, creep.trans changes.creep, ?_, ?_⟩,
        fun _ full => absurd full done, fun far => absurd far trip⟩
      · exact (congrArg LineLoop.target loop).trans target
      · exact (congrArg LineLoop.err loop).trans err
      · exact loop.trans (computed_loop v false e)
      · show (beginAttempt (finish load .beforeSequencer (loopWork e v))).gov.dPrev = _
        rw [gov, cgov]

/-! ### From FLYING (R89) -/

/-- Before the computation of a station that neither rests nor waits in PRIMED, the Load Monitor's check is all that
can happen: `m` is what it makes of the state. -/
theorem untilLoop_moving {m : State} (ready : s.seq.state ≠ .ready) (stopped : s.seq.state ≠ .stopped)
    (primed : s.seq.state ≠ .primed) (same : m.seq.state = s.seq.state)
    (monitor : earlyPlace load → ∀ here, loadMonitorAt here s = m) :
    untilLoop load .beforeSequencer s = (if earlyPlace load then m else s) ∧
      entersFlight load .beforeSequencer s = false := by
  have calm (y : State) (h : y.seq.state = s.seq.state) : creepCheck y = y :=
    creepCheck_moving (by rw [h]; exact ready) (by rw [h]; exact stopped)
  have other (y : State) (h : y.seq.state = s.seq.state) : primedWork y = y :=
    primedWork_other (by rw [h]; exact primed)
  have unprimed (y : State) (h : y.seq.state = s.seq.state) : (y.seq.state == .primed) = false := by
    rw [h]; exact beq_eq_false_iff_ne.mpr primed
  have later : load ≠ .beforeSequencer → checksAt .beforeSequencer load .beforeSequencer s = s := fun h => by
    rw [checksAt_eq, if_pos rfl, if_neg (Ne.symm h), calm s rfl]
  by_cases hl : load = .beforeSequencer
  · subst hl
    have first : checksAt .beforeSequencer .beforeSequencer .beforeSequencer s = m := by
      rw [checksAt_eq, if_pos rfl, if_pos rfl, monitor (.inl rfl), calm m same]
    refine ⟨?_, ?_⟩
    · unfold untilLoop
      rw [first, other m same, if_pos (.inl rfl)]; rfl
    · unfold entersFlight
      rw [first, unprimed m same]; rfl
  · have second : untilLoop load .beforeSequencer s =
        if .beforeComputation = load then loadMonitorAt .beforeComputation s else s := by
      unfold untilLoop
      rw [later hl, other s rfl, checksAt_eq, if_neg (by decide)]
    refine ⟨second.trans ?_, ?_⟩
    · split
      next at_ => rw [if_pos (.inr at_.symm)]; exact monitor (.inr at_.symm) _
      next off => rw [if_neg fun h => h.elim hl fun h => off h.symm]
    · unfold entersFlight
      rw [later hl, unprimed s rfl]; rfl

/-- What the Load Monitor's notes before a computation leave of what the computation and the statements read. -/
theorem noted_reads (s : State) (x : LengthReader) (p : Prop) [Decidable p] :
    let seen := if p then s.loadNoted else s
    let v := if p then (s.withLen x).loadNoted else s.withLen x
    (v.newProgress false = seen.newProgress false ∧ v.nextSegment false = seen.nextSegment false ∧
      v.nextTarget false = s.targetAt (seen.nextSegment false) (seen.newProgress false)) ∧
    (v.gov.q = s.gov.q ∧ v.gov.cue = s.gov.cue ∧ v.gov.achieved = s.gov.achieved ∧ v.cueEnd = s.cueEnd) ∧
    s.changesOnly [.gov, .load, .len] v ∧ v.len = x := by
  dsimp only
  have only : s.changesOnly [.gov, .load, .len] (s.withLen x).loadNoted := (withLen_only s x).next (loadNoted_only _)
  split
  · exact ⟨⟨rfl, rfl, rfl⟩, ⟨rfl, rfl, rfl, rfl⟩, only, rfl⟩
  · exact ⟨⟨rfl, rfl, rfl⟩, ⟨rfl, rfl, rfl, rfl⟩, (withLen_only s x).mono, rfl⟩

/-- Settles O58. -/
theorem flyingSampleFliesTheCue : Obligations.FlyingSampleFliesTheCue := by
  unfold Obligations.FlyingSampleFliesTheCue
  intro w load l s quiet reading flying hr hfit leaves calm read early seen q target error achieved parked
  obtain ⟨x, length, run⟩ := exec_sample load .beforeSequencer quiet reading (by rw [flying]; rfl) leaves
  let s₀ := s.withLen x
  have weighs : s.weighsAs s₀ := ⟨rfl, rfl, rfl, rfl, rfl⟩
  have calm : load = .afterReport ∨ ¬ s.params.tMax < s.tens.latched ∧ ¬ s.slackEnds :=
    calm.imp_right fun k => ⟨Nat.not_lt.mpr k.1, k.2⟩
  have lightEarly (h : early) : ¬ s.params.tMax < s.tens.latched ∧ ¬ s.slackEnds :=
    calm.resolve_left fun k => by rcases h with h | h <;> cases h.symm.trans k
  have monitor (h : early) (here : CheckPoint) : loadMonitorAt here s₀ = s₀.loadNoted :=
    loadMonitorAt_silent here weighs (fun k => (lightEarly h).1 k.2.2) (.inr fun _ => (lightEarly h).2)
  obtain ⟨until_, entering⟩ := untilLoop_moving (s := s₀) (m := s₀.loadNoted) (load := load)
    (by rw [show s₀.seq.state = _ from flying]; decide) (by rw [show s₀.seq.state = _ from flying]; decide)
    (by rw [show s₀.seq.state = _ from flying]; decide) rfl monitor
  let v : State := if early then s₀.loadNoted else s₀
  have seenIs : seen = if early then s.loadNoted else s := by
    show (if early then loadCheck s else s) = _
    split
    next h => exact loadCheck_silent fun k => (lightEarly h).1 k.2.2
    next => rfl
  obtain ⟨⟨progress, segment, aim⟩, ⟨vq, vcue, vachieved, vend⟩, only, vlen⟩ := noted_reads s x early
  rw [← seenIs] at progress segment aim
  have flies : Flies s load .flying v := {
    empty := hr
    flying := (congrArg Sequencer.state only.seq).trans flying
    stop := only.stop
    link := only.link
    params := only.params
    tens := only.tens
    brake := (congrArg LineLoop.brake only.loop).trans (hfit.released (.inr flying))
    drive := (congrArg LineLoop.drive only.loop).trans (by rw [hfit.drive, State.driveWanted, flying])
    early := fun h => ⟨by
      rw [show v = s₀.loadNoted from if_pos h, ← flying]; exact weighs.written, (lightEarly h).1⟩
    late := fun h => by rw [show v = s₀ from if_neg h]; exact weighs }
  have err : v.nextError false = (target : Int) - (l : Int) := by
    show (v.nextTarget false : Int) - (v.len.measured : Int) = _
    rw [show v.nextTarget false = target from aim, show v.len = x from vlen, length]
  have flown : v.flownTo = achieved := by
    unfold State.flownTo
    rw [err, show v.params = s.params from only.params, show v.newProgress false = q from progress,
      show v.gov.achieved = s.gov.achieved from vachieved]
  have line : (speedCommand (v.nextTarget false) false v).loop = (speedCommand target false read).loop := by
    rw [show v.nextTarget false = target from aim]
    exact speedCommand_loop_congr _ _ only.loop only.params (by rw [show v.len = x from vlen]; exact length)
  let t := beginAttempt (cycleWork load .beforeSequencer s₀)
  have ended : t = beginAttempt (finish load .beforeSequencer (loopWork false v)) := by
    show beginAttempt (cycleWork load .beforeSequencer s₀) = _
    rw [cycleWork_stages, entering, until_]
  refine ⟨t, run, ?_⟩
  rw [ended]
  obtain ⟨⟨tq, tk, tcue, tachieved, tlag, ttarget, terr⟩, goesOn, completes, trips⟩ := flies.sample false calm
  rw [flown, show v.cueEnd = s.cueEnd from vend, show v.params = s.params from only.params, err, line,
    show v.newProgress false = q from progress, show v.gov.q = s.gov.q from vq, show v.seq = s.seq from only.seq,
    show v.creep = s.creep from only.creep] at goesOn
  rw [flown, show v.cueEnd = s.cueEnd from vend, show v.params = s.params from only.params, err,
    show v.seq = s.seq from only.seq, show v.loop = s.loop from only.loop] at completes
  rw [show v.params = s.params from only.params, err, show v.newProgress false = q from progress,
    show v.gov.q = s.gov.q from vq, show v.seq = s.seq from only.seq,
    show v.own = s.own from congrArg Params.station only.params] at trips
  rw [show v.params = s.params from only.params, err] at tlag
  refine ⟨tq.trans progress, tk.trans segment, tcue.trans vcue, tachieved.trans flown, tlag, ttarget.trans aim,
    terr.trans err, fun near short => ?_, fun near full => ?_, trips⟩
  · obtain ⟨ends, creep, loop, dPrev⟩ := goesOn near short
    rw [ite_self] at ends
    exact ⟨ends, creep, dPrev, loop⟩
  · obtain ⟨ends, dPrev, brake, drive⟩ := completes near full
    refine ⟨?_, dPrev, brake, drive⟩
    have found : (if early ∨ load = CheckPoint.beforeCompletion then StationState.flying else parked) =
        if early then StationState.flying else if load = CheckPoint.beforeCompletion then StationState.flying
          else parked := by
      by_cases h : early
      · rw [if_pos h, if_pos (.inl h)]
      · rw [if_neg h]
        exact if_congr (or_iff_right h) rfl rfl
    rw [found]
    exact ends

end Sys2Proof.Machine
end

section
/-!
SUPPORT. The length samples of a controlled stop (chapters 6 and 9).
-/

namespace Sys2Proof.Machine

set_option Elab.async false

variable {s t v y z : State} {load : CheckPoint} {found : StationState}

/-! ### The Load Monitor in a stop (R129, R145) -/

/-- The later-fault set after a check in STOPPING. -/
def State.weighedLater (s : State) : BitVec 24 :=
  if s.params.tMax < s.tens.latched then addLater s.stop.later .overload else s.stop.later

/-- What the Load Monitor makes of a station in STOPPING. -/
def State.weighed (s : State) : State := s.loadNoted.withStop { s.stop with later := s.weighedLater }

theorem loadCheck_stopping (stopping : s.seq.state = .stopping) (opened : s.stop.first.isSome = true) :
    loadCheck s = s.weighed := by
  unfold State.weighed State.weighedLater
  by_cases above : s.params.tMax < s.tens.latched
  · rw [loadCheck_overload ⟨by rw [stopping]; rfl, by rw [stopping]; decide, above⟩, if_pos above]
    exact takeCause_controlled_stopping (s := s.loadNoted) _ rfl stopping opened
  · rw [loadCheck_silent fun h => above h.2.2, if_neg above]
    rfl

theorem loadMonitorAt_stopping (here : CheckPoint) (stopping : s.seq.state = .stopping)
    (opened : s.stop.first.isSome = true) : loadMonitorAt here s = s.weighed := by
  rw [loadMonitorAt_notFlying here (by rw [stopping]; decide), loadCheck_stopping stopping opened]

theorem loadMonitorAt_stopped (here : CheckPoint) (stopped : s.seq.state = .stopped) :
    loadMonitorAt here s = s.loadNoted := by
  rw [loadMonitorAt_notFlying here (by rw [stopped]; decide), loadCheck_silent fun h => h.2.1 stopped]

/-- STOPPED and STOPPING are alike to the Load Monitor's notes. -/
theorem State.loadWritten.stopping (h : s.loadWritten .stopped t) : s.loadWritten .stopping t := by
  unfold State.loadWritten at *
  simpa using h

/-- What a sample's ending makes of a station in a stop. -/
def State.endsStopped (s z : State) (later : BitVec 24) (t : State) : Prop :=
  t.seq = z.seq ∧ z.keepsLine t ∧ t.stop = { z.stop with later := later } ∧ s.loadWritten .stopping t

theorem State.endsStopped.reported {later : BitVec 24} (h : s.endsStopped z later y) (r : y.reportedAs t) :
    s.endsStopped z later t := by
  obtain ⟨seq, keeps, stop, written⟩ := h
  obtain ⟨only, -⟩ := id r
  exact ⟨only.seq.trans seq, keeps.reported r, only.stop.trans stop,
    written.same (congrArg Governor.holds only.gov) only.load⟩

/-- The Load Monitor's work in a stop, as an ending. -/
theorem monitor_endsStopped (here : CheckPoint) (weighs : s.weighsAs y)
    (state : y.seq.state = .stopping ∨ y.seq.state = .stopped) (opened : y.stop.first.isSome = true) :
    s.endsStopped y (if y.seq.state = .stopping then y.weighedLater else y.stop.later) (loadMonitorAt here y) := by
  have written := weighs.written
  rcases state with h | h
  · rw [loadMonitorAt_stopping here h opened, if_pos h]
    rw [h] at written
    exact ⟨rfl, ⟨rfl, rfl, rfl⟩, rfl, written.same rfl rfl⟩
  · rw [loadMonitorAt_stopped here h, if_neg (by rw [h]; decide)]
    rw [h] at written
    exact ⟨rfl, ⟨rfl, rfl, rfl⟩, rfl, written.stopping⟩

/-- The end of the sample of a station in a stop. -/
theorem finish_stopped (early : earlyPlace load → s.loadWritten .stopping y) (late : ¬ earlyPlace load → s.weighsAs y)
    (state : y.seq.state = .stopping ∨ y.seq.state = .stopped) (opened : y.stop.first.isSome = true) :
    s.endsStopped y (if ¬ earlyPlace load ∧ y.seq.state = .stopping then y.weighedLater else y.stop.later)
      (beginAttempt (finish load .beforeSequencer y)) := by
  refine State.endsStopped.reported ?_ (beginAttempt_reported _)
  have other (z : State) (h : z.seq = y.seq) : completionTest z = z := completionTest_other fun k => by
    rw [h] at k
    rcases state with h | h <;> cases h.symm.trans k.1
  by_cases he : earlyPlace load
  · have run : finish load .beforeSequencer y = composeReport y := by
      show _ = composeReport y
      rw [show finish load .beforeSequencer y = composeReport (completionTest y) by
        rcases he with rfl | rfl <;> rfl, other y rfl]
    rw [run, if_neg fun h => h.1 he]
    have unchanged : s.endsStopped y y.stop.later y := ⟨rfl, ⟨rfl, rfl, rfl⟩, rfl, early he⟩
    exact unchanged.reported (composeReport_reported y)
  · have ends := fun here => monitor_endsStopped here (late he) state opened
    have same : (if ¬ earlyPlace load ∧ y.seq.state = .stopping then y.weighedLater else y.stop.later) =
        if y.seq.state = .stopping then y.weighedLater else y.stop.later := if_congr (and_iff_right he) rfl rfl
    rw [same]
    cases load with
    | beforeSequencer | beforeComputation => exact absurd (by decide) he
    | beforeCompletion =>
      have run : finish .beforeCompletion .beforeSequencer y = composeReport (loadMonitorAt .beforeCompletion y) := by
        show composeReport (completionTest (loadMonitorAt .beforeCompletion y)) = _
        rw [other _ (ends .beforeCompletion).1]
      rw [run]
      exact (ends _).reported (composeReport_reported _)
    | beforeReport =>
      have run : finish .beforeReport .beforeSequencer y = composeReport (loadMonitorAt .beforeReport y) := by
        show composeReport (loadMonitorAt .beforeReport (completionTest y)) = _
        rw [other y rfl]
      rw [run]
      exact (ends _).reported (composeReport_reported _)
    | afterReport =>
      have r := composeReport_reported y
      have run : finish .afterReport .beforeSequencer y = loadMonitorAt .afterReport (composeReport y) := by
        show loadMonitorAt .afterReport (composeReport (completionTest y)) = _
        rw [other y rfl]
      obtain ⟨only, -⟩ := id r
      obtain ⟨seq, keeps, stop, written⟩ := monitor_endsStopped .afterReport ((late he).reported r)
        (by rw [only.seq]; exact state) (by rw [only.stop]; exact opened)
      rw [run]
      have weighed : (composeReport y).weighedLater = y.weighedLater := by
        unfold State.weighedLater; rw [only.params, only.tens, only.stop]
      rw [weighed, only.seq, only.stop] at stop
      exact ⟨seq.trans only.seq, keeps.before r, stop, written⟩

/-! ### The settling of a stop (R142, R143) -/

/-- The brake stands confirmed under SET, or its sample shows set already under RELEASE. -/
def LineLoop.confirms (l : LineLoop) : Prop :=
  (l.brake = .set ∧ l.supervision = .matched) ∨ (l.brake = .release ∧ l.brakeSample = .set)

/-- What a Settle request makes of a controlled stop. -/
theorem settleRequest_ends (state : s.seq.state = .stopping) (settling : s.stop.phase = .settling) :
    let t := settleRequest s
    t.loop.brake = .set ∧ t.loop.target = s.loop.target ∧
      (s.loop.confirms → t.seq = { s.seq with state := .stopped } ∧ t.loop.drive = false ∧
        t.loop.supervision = .matched) ∧
      (¬ s.loop.confirms → t.seq = s.seq ∧ t.loop.drive = s.loop.drive ∧
        t.loop.supervision = if s.loop.brake = .release then .waiting else s.loop.supervision) := by
  unfold settleRequest LineLoop.confirms
  cases brake : s.loop.brake with
  | set =>
    rw [if_pos rfl]
    by_cases matched : s.loop.supervision = .matched
    · rw [if_pos matched]
      exact ⟨brake, rfl, fun _ => ⟨rfl, rfl, matched⟩, fun h => absurd (.inl ⟨rfl, matched⟩) h⟩
    · rw [if_neg matched]
      have unconfirmed : ¬ ((BrakeCommand.set = .set ∧ s.loop.supervision = .matched) ∨
          (BrakeCommand.set = .release ∧ s.loop.brakeSample = .set)) :=
        not_or.mpr ⟨fun h => matched h.2, fun h => nomatch h.1⟩
      exact ⟨brake, rfl, fun h => absurd h unconfirmed, fun _ => ⟨rfl, rfl, rfl⟩⟩
  | release =>
    have moving : s.seq.state.operating = true := by rw [state]; rfl
    rw [if_neg (by decide), commandBrake_set_change (by rw [brake]; decide) moving]
    cases sample : s.loop.brakeSample with
    | set =>
      rw [if_pos rfl, brakeSetConfirmed_settling (s := s.setOn .matched) state settling]
      exact ⟨rfl, rfl, fun _ => ⟨rfl, rfl, rfl⟩, fun h => absurd (.inr ⟨rfl, rfl⟩) h⟩
    | released =>
      rw [if_neg (by decide)]
      have unconfirmed : ¬ ((BrakeCommand.release = .set ∧ s.loop.supervision = .matched) ∨
          (BrakeCommand.release = .release ∧ Feedback.released = .set)) :=
        not_or.mpr ⟨fun h => (nomatch h.1), fun h => nomatch h.2⟩
      exact ⟨rfl, rfl, fun h => absurd h unconfirmed, fun _ => ⟨rfl, rfl, rfl⟩⟩

/-- The condition on which a stop settles (R142). -/
def State.settles (s : State) : Prop :=
  s.seq.state = .stopping ∧ s.stop.phase = .ramping ∧ s.gov.dPrev = 0 ∧ s.loop.err.natAbs ≤ s.params.followTol

theorem settleTest_settles (h : s.settles) :
    settleTest s = settleRequest (s.withStop { s.stop with phase := .settling }) := if_pos h

theorem settleTest_other (h : ¬ s.settles) : settleTest s = s := if_neg h

theorem loopWork_stopping (e : Bool) (h : s.seq.state = .stopping) :
    loopWork e s = settleTest (cycleComputation true false s) := by
  unfold loopWork; rw [h]

/-! ### The sample (R98) -/

/-- A station in a controlled stop, before its computation. -/
structure Stops (s : State) (load : CheckPoint) (later : BitVec 24) (v : State) : Prop where
  stopping : v.seq.state = .stopping
  opened : s.stop.first.isSome = true
  stop : v.stop = { s.stop with later := later }
  params : v.params = s.params
  tens : v.tens = s.tens
  loop : v.loop = s.loop
  early : earlyPlace load → s.loadWritten .stopping v
  late : ¬ earlyPlace load → s.weighsAs v

variable {later : BitVec 24}

/-- The ending of a stop's sample from what the computation and the settling have left. -/
theorem Stops.ends (h : Stops s load later v) (only : v.changesOnly [.link, .seq, .gov, .loop, .creep, .stop] y)
    (holds : y.gov.holds = v.gov.holds) (state : y.seq.state = .stopping ∨ y.seq.state = .stopped)
    (first : y.stop.first = s.stop.first) :
    s.endsStopped y (if ¬ earlyPlace load ∧ y.seq.state = .stopping then y.weighedLater else y.stop.later)
      (beginAttempt (finish load .beforeSequencer y)) :=
  finish_stopped (fun k => (h.early k).same holds only.load)
    (fun k => (h.late k).of only.tens only.params only.peers only.load holds) state (by rw [first]; exact h.opened)

/-- The settling condition after a computation: no advance, the error within the follow tolerance. -/
theorem computed_settles (stopping : v.seq.state = .stopping) : (v.computed true false).settles ↔
    v.stop.phase = .ramping ∧ v.newProgress true = v.gov.q ∧ (v.nextError true).natAbs ≤ v.params.followTol := by
  have only := computed_only v true false
  have rises : v.gov.q ≤ v.newProgress true := q_le_newProgress true v
  unfold State.settles
  rw [only.seq, only.stop, only.params, computed_err, computed_gov]
  have none : v.newProgress true - v.gov.q = 0 ↔ v.newProgress true = v.gov.q := by omega
  show v.seq.state = .stopping ∧ v.stop.phase = .ramping ∧ v.newProgress true - v.gov.q = 0 ∧ _ ↔ _
  rw [none]
  exact and_iff_right stopping

/-- A stop that trips becomes immediate (R94, R145). -/
theorem Stops.trips (h : Stops s load later v) (e : Bool) (trip : v.params.tripTol < (v.nextError true).natAbs) :
    let t := beginAttempt (finish load .beforeSequencer (loopWork e v))
    s.loadWritten .stopping t ∧ t.stop.first = s.stop.first ∧
      t.gov = { (v.computed true false).gov with holds := t.gov.holds } ∧ t.loop.target = v.nextTarget true ∧
      t.seq = { v.seq with state := .stopped } ∧ t.stop.category = .immediate ∧
      t.stop.later = addLater later .followTrip ∧ t.loop.drive = false ∧ t.loop.brake = .set := by
  let c := v.computed true false
  let y := takeCause .followTrip v.own c
  have changes := computed_only v true false
  have only := takeCause_only c .followTrip v.own
  have stopping : c.seq.state = .stopping := by rw [changes.seq]; exact h.stopping
  have opened : c.stop.first.isSome = true := by rw [changes.stop, h.stop]; exact h.opened
  obtain ⟨first, laterSet, -, immediate, -⟩ := takeCause_stopping (c := .followTrip) (src := v.own) stopping opened
  obtain ⟨-, category, -, seq, ⟨brake, drive, -⟩, -⟩ := immediate rfl
  have stopped : y.seq.state = .stopped := congrArg Sequencer.state seq
  have run : loopWork e v = y := by
    rw [loopWork_stopping e h.stopping, cycleComputation_trips trip]
    exact settleTest_other fun k => by cases stopped.symm.trans k.1
  have target : y.loop.target = v.nextTarget true := by
    have loop : y.loop = LineLoop.setCommanded { c.loop with drive := false, duty := 512, speed := 0 } := by
      obtain ⟨x, hx⟩ := takeCause_eq_withLink (c := .followTrip) (src := v.own) (s := c) (by rw [stopping]; rfl)
      rw [show y = _ from hx, intake_immediate (by rw [stopping]; rfl) rfl fun k => nomatch stopping.symm.trans k]
      exact dropped_loop _
    rw [loop, (setCommanded_targets _).1]
    show (v.computed true false).loop.target = _
    rw [computed_loop]; rfl
  have cstop : c.stop = { s.stop with later := later } := changes.stop.trans h.stop
  have yfirst : y.stop.first = s.stop.first := first.trans (by rw [cstop])
  obtain ⟨tseq, keeps, stop, written⟩ := h.ends (y := y) (changes.next only)
    ((congrArg Governor.holds only.gov).trans (computed_holds v true false)) (.inr stopped) yfirst
  rw [if_neg fun k => by cases stopped.symm.trans k.2] at stop
  obtain ⟨loop, -, gov⟩ := keeps
  intro t
  have run' : t = beginAttempt (finish load .beforeSequencer y) := by rw [← run]
  rw [run']
  refine ⟨written, ?_, gov.trans (by rw [only.gov]), ?_, ?_, ?_, ?_, ?_, ?_⟩
  · rw [stop]; exact yfirst
  · rw [loop, target]
  · rw [tseq, show y.seq = _ from seq, changes.seq]
  · rw [stop]; exact category
  · rw [stop]
    show y.stop.later = _
    rw [show y.stop.later = _ from laterSet, cstop]
  · rw [loop]; exact drive
  · rw [loop]; exact brake

theorem weighedLater_congr (stop : y.stop = v.stop) (params : y.params = v.params) (tens : y.tens = v.tens) :
    y.weighedLater = v.weighedLater := by
  unfold State.weighedLater
  rw [stop, params, tens]

/-- A stop that neither settles nor trips goes on. -/
theorem Stops.goesOn (h : Stops s load later v) (e : Bool) (near : (v.nextError true).natAbs ≤ v.params.tripTol)
    (other : ¬ (v.computed true false).settles) :
    let t := beginAttempt (finish load .beforeSequencer (loopWork e v))
    s.loadWritten .stopping t ∧ (v.computed true false).keepsLine t ∧ t.seq = v.seq ∧
      t.stop = { s.stop with later := if ¬ earlyPlace load then v.weighedLater else later } := by
  let c := v.computed true false
  have changes := computed_only v true false
  have stopping : c.seq.state = .stopping := by rw [changes.seq]; exact h.stopping
  have cstop : c.stop = { s.stop with later := later } := changes.stop.trans h.stop
  have run : loopWork e v = c := by
    rw [loopWork_stopping e h.stopping, cycleComputation_follows near]
    exact settleTest_other other
  obtain ⟨seq, keeps, stop, written⟩ := h.ends (y := c) changes.mono (computed_holds v true false) (.inl stopping)
    (by rw [cstop])
  intro t
  rw [show t = beginAttempt (finish load .beforeSequencer c) by rw [← run]]
  refine ⟨written, keeps, seq.trans changes.seq, ?_⟩
  rw [stop, weighedLater_congr changes.stop changes.params changes.tens, cstop,
    if_congr (and_iff_left stopping) rfl rfl]

/-- A stop that settles (R142, R143). -/
theorem Stops.settles (h : Stops s load later v) (e : Bool) (near : (v.nextError true).natAbs ≤ v.params.tripTol)
    (settles : (v.computed true false).settles) :
    let t := beginAttempt (finish load .beforeSequencer (loopWork e v))
    s.loadWritten .stopping t ∧ t.gov = { (v.computed true false).gov with holds := t.gov.holds } ∧
      t.loop.target = v.nextTarget true ∧ t.loop.brake = .set ∧
      (v.loop.confirms → t.seq = { v.seq with state := .stopped } ∧ t.loop.drive = false ∧
        t.loop.supervision = .matched ∧ t.stop = { s.stop with phase := .settling, later := later }) ∧
      (¬ v.loop.confirms → t.seq = v.seq ∧ t.loop.drive = v.loop.drive ∧
        t.loop.supervision = (if v.loop.brake = .release then .waiting else v.loop.supervision) ∧
        t.stop = { s.stop with
          phase := .settling, later := if ¬ earlyPlace load then v.weighedLater else later }) := by
  let c := v.computed true false
  let d := c.withStop { c.stop with phase := .settling }
  let y := settleRequest d
  have changes := computed_only v true false
  have stopping : c.seq.state = .stopping := by rw [changes.seq]; exact h.stopping
  have cstop : c.stop = { s.stop with later := later } := changes.stop.trans h.stop
  have run : loopWork e v = y := by
    rw [loopWork_stopping e h.stopping, cycleComputation_follows near]
    exact settleTest_settles settles
  have only := settleRequest_only d
  have ystop : y.stop = { s.stop with phase := .settling, later := later } := by
    rw [only.stop]
    show { c.stop with phase := .settling } = _
    rw [cstop]
  obtain ⟨brake, target, confirmed, waits⟩ := settleRequest_ends (s := d) stopping rfl
  obtain ⟨cbrake, sample, drive, supervision⟩ := computed_brake v true false
  have confirms : d.loop.confirms ↔ v.loop.confirms := by
    show c.loop.confirms ↔ _
    unfold LineLoop.confirms
    rw [cbrake, sample, supervision]
  rw [confirms] at confirmed waits
  have state : y.seq.state = .stopping ∨ y.seq.state = .stopped := by
    by_cases k : v.loop.confirms
    · exact .inr (congrArg Sequencer.state (confirmed k).1)
    · exact .inl ((congrArg Sequencer.state (waits k).1).trans stopping)
  have all : v.changesOnly [.link, .seq, .gov, .loop, .creep, .stop] y :=
    (changes.next (withStop_only c _) (l := [.gov, .loop, .stop])).next only
  obtain ⟨seq, ⟨loop, -, gov⟩, stop, written⟩ := h.ends (y := y) all
    ((congrArg Governor.holds only.gov).trans (computed_holds v true false)) state (by rw [ystop])
  rw [ystop] at stop
  intro t
  rw [show t = beginAttempt (finish load .beforeSequencer y) by rw [← run]]
  refine ⟨written, gov.trans (by rw [only.gov]; rfl), ?_, ?_, fun k => ?_, fun k => ?_⟩
  · rw [loop, target]
    show c.loop.target = _
    rw [computed_loop]; rfl
  · rw [loop]; exact brake
  · obtain ⟨yseq, off, matched⟩ := confirmed k
    rw [loop]
    refine ⟨seq.trans (yseq.trans (by rw [show d.seq = _ from changes.seq])), off, matched, stop.trans ?_⟩
    rw [if_neg fun k => by cases (congrArg Sequencer.state yseq).symm.trans k.2]
  · obtain ⟨yseq, on, waiting⟩ := waits k
    rw [loop]
    refine ⟨seq.trans (yseq.trans changes.seq), on.trans drive, waiting.trans ?_, stop.trans ?_⟩
    · rw [show d.loop = c.loop from rfl, cbrake, supervision]
    · have late (k : ¬ earlyPlace load) : y.weighedLater = v.weighedLater := by
        unfold State.weighedLater
        rw [ystop, all.params, all.tens, h.stop]
      have going : y.seq.state = .stopping := (congrArg Sequencer.state yseq).trans stopping
      by_cases k : earlyPlace load
      · rw [if_neg fun n => n.1 k, if_neg (not_not.mpr k)]
      · rw [if_pos ⟨k, going⟩, if_pos k, late k]

/-- What the Load Monitor's work in a stop leaves of what the path stop's computation and the statements read. -/
theorem weighed_reads (s : State) (x : LengthReader) (p : Prop) [Decidable p] :
    let v := if p then (s.withLen x).weighed else s.withLen x
    (v.newProgress true = s.newProgress true ∧ v.nextSegment true = s.nextSegment true ∧
      v.nextTarget true = s.nextTarget true) ∧
    (v.gov.q = s.gov.q ∧ v.gov.achieved = s.gov.achieved) ∧
    v.stop = { s.stop with later := if p then s.weighedLater else s.stop.later } ∧
    s.changesOnly [.gov, .load, .len, .stop] v ∧ v.len = x := by
  dsimp only
  have only : s.changesOnly [.gov, .load, .len, .stop] (s.withLen x).weighed :=
    ((withLen_only s x).next (loadNoted_only _) (l := [.gov, .load, .len])).next (withStop_only _ _)
  by_cases h : p
  · rw [if_pos h, if_pos h]
    exact ⟨⟨rfl, rfl, rfl⟩, ⟨rfl, rfl⟩, rfl, only, rfl⟩
  · rw [if_neg h, if_neg h]
    exact ⟨⟨rfl, rfl, rfl⟩, ⟨rfl, rfl⟩, rfl, (withLen_only s x).mono, rfl⟩

/-- Settles O59. -/
theorem stoppingSampleSettlesTheStop : Obligations.StoppingSampleSettlesTheStop := by
  unfold Obligations.StoppingSampleSettlesTheStop
  intro w load l s quiet reading stopping hr hfit leaves read early q target error settles confirmed later laterStopped
  obtain ⟨x, length, run⟩ := exec_sample load .beforeSequencer quiet reading (by rw [stopping]; rfl) leaves
  let s₀ := s.withLen x
  obtain ⟨⟨opened, -⟩, -⟩ := (recordFits_stopping stopping).mp hr
  have weighs : s.weighsAs s₀ := ⟨rfl, rfl, rfl, rfl, rfl⟩
  obtain ⟨until_, entering⟩ := untilLoop_moving (s := s₀) (m := s₀.weighed) (load := load)
    (by rw [show s₀.seq.state = _ from stopping]; decide) (by rw [show s₀.seq.state = _ from stopping]; decide)
    (by rw [show s₀.seq.state = _ from stopping]; decide) rfl fun _ here => loadMonitorAt_stopping here stopping opened
  let v : State := if early then s₀.weighed else s₀
  obtain ⟨⟨progress, segment, aim⟩, ⟨vq, vachieved⟩, stop, only, vlen⟩ := weighed_reads s x early
  have written : s.loadWritten .stopping s₀.weighed := by
    have noted := weighs.written
    rw [show s₀.seq.state = _ from stopping] at noted
    exact noted.same rfl rfl
  have stops : Stops s load laterStopped v := {
    stopping := (congrArg Sequencer.state only.seq).trans stopping
    opened := opened
    stop := stop
    params := only.params
    tens := only.tens
    loop := only.loop
    early := fun h => by rw [show v = s₀.weighed from if_pos h]; exact written
    late := fun h => by rw [show v = s₀ from if_neg h]; exact weighs }
  have err : v.nextError true = (target : Int) - (l : Int) := by
    show (v.nextTarget true : Int) - (v.len.measured : Int) = _
    rw [show v.nextTarget true = target from aim, show v.len = x from vlen, length]
  have params : v.params = s.params := only.params
  have laters : (if ¬ earlyPlace load then v.weighedLater else laterStopped) = later := by
    by_cases h : early
    · rw [if_neg (not_not.mpr h), show laterStopped = later from if_pos h]
    · rw [if_pos h, show v = s₀ from if_neg h]; rfl
  have settling : (v.computed true false).settles ↔ settles := by
    rw [computed_settles stops.stopping, err, params, show v.stop = _ from stop, show v.newProgress true = q from progress,
      show v.gov.q = s.gov.q from vq]
  have gov {t : State} (h : t.gov = { (v.computed true false).gov with holds := t.gov.holds }) :
      t.gov.q = q ∧ t.gov.k = s.nextSegment true ∧ t.gov.dPrev = q - s.gov.q ∧
        t.gov.achieved = (if error ≤ s.params.followTol then q else s.gov.achieved) := by
    rw [h, computed_gov, err, params, show v.newProgress true = q from progress]
    refine ⟨rfl, segment, ?_, ?_⟩
    · rw [show v.gov.q = s.gov.q from vq]
    · rw [show v.gov.achieved = s.gov.achieved from vachieved]
  let t := beginAttempt (cycleWork load .beforeSequencer s₀)
  have ended : t = beginAttempt (finish load .beforeSequencer (loopWork false v)) := by
    show beginAttempt (cycleWork load .beforeSequencer s₀) = _
    rw [cycleWork_stages, entering, until_]
  refine ⟨t, run, ?_⟩
  rw [ended]
  by_cases trip : s.params.tripTol < error
  · have far : ¬ error ≤ s.params.tripTol := Nat.not_le.mpr trip
    obtain ⟨written, first, keeps, aimed, seq, category, later, off, set⟩ := stops.trips false
      (by rw [err, params]; exact trip)
    obtain ⟨tq, tk, td, ta⟩ := gov keeps
    exact ⟨written, tq, tk, td, ta, aimed.trans aim, first, fun near => absurd near far, fun near => absurd near far,
      fun _ => ⟨seq.trans (by rw [show v.seq = _ from only.seq]), category, later, off, set⟩⟩
  have near : error ≤ s.params.tripTol := Nat.not_lt.mp trip
  have near' : (v.nextError true).natAbs ≤ v.params.tripTol := by rw [err, params]; exact near
  by_cases k : settles
  · obtain ⟨written, keeps, aimed, set, done, waits⟩ := stops.settles false near' (settling.mpr k)
    obtain ⟨tq, tk, td, ta⟩ := gov keeps
    rw [show v.loop = s.loop from only.loop, show v.seq = s.seq from only.seq] at done waits
    refine ⟨written, tq, tk, td, ta, aimed.trans aim, ?_, fun _ other => absurd k other, fun _ _ => ⟨set, fun sure => ?_,
      fun unsure => ?_⟩, fun far => absurd far trip⟩
    · by_cases sure : s.loop.confirms
      · rw [(done sure).2.2.2]
      · rw [(waits sure).2.2.2]
    · obtain ⟨seq, off, matched, stop⟩ := done sure
      exact ⟨stop, seq, off, matched⟩
    · obtain ⟨seq, on, waiting, stop⟩ := waits unsure
      refine ⟨stop.trans (by rw [laters]), seq, on.trans ?_, waiting⟩
      rw [hfit.drive, State.driveWanted, stopping]
  · obtain ⟨written, ⟨loop, -, keeps⟩, seq, stop⟩ := stops.goesOn false near' fun n => k (settling.mp n)
    obtain ⟨tq, tk, td, ta⟩ := gov keeps
    have line := loop.trans (computed_loop v true false)
    refine ⟨written, tq, tk, td, ta, ?_, by rw [stop], fun _ _ => ⟨seq.trans only.seq, stop.trans (by rw [laters]), ?_⟩,
      fun _ h => absurd h k, fun far => absurd far trip⟩
    · rw [line]; exact aim
    · rw [line, show v.nextTarget true = target from aim]
      exact speedCommand_loop_congr _ _ only.loop only.params (by rw [show v.len = x from vlen]; exact length)

end Sys2Proof.Machine
end

section
/-!
SUPPORT. The length samples in PRIMED (chapters 1, 6, 7 and 8).
-/

namespace Sys2Proof.Machine

set_option Elab.async false

variable {s t v y z : State} {load : CheckPoint} {found : StationState}

/-! ### The Sequencer's tests in PRIMED (R14, R16) -/

theorem yieldsTo_iff {r : Row} {p : Report} (report : r.report = some p) : s.yieldsTo r = true ↔
    p.stateCode.toNat = 3 ∨ (p.stateCode.toNat = 2 ∧ r.group < s.ownGroup) := by
  unfold State.yieldsTo
  rw [report]
  simp only [Bool.or_eq_true, Bool.and_eq_true, decide_eq_true_iff, Report.shows_iff (st := .flying) rfl,
    Report.shows_iff (st := .primed) rfl, StationState.code]

/-- The airspace re-check in the statements' words. -/
theorem mustAbandon_iff : s.mustAbandon = true ↔ ∃ r ∈ s.peers.rows, s.rowConflicts [3] s.gov.cue r ∨
    (s.rowConflicts [2] s.gov.cue r ∧ r.group < s.ownGroup) := by
  rw [State.mustAbandon, List.any_eq_true]
  constructor
  · rintro ⟨r, conflict, yields⟩
    obtain ⟨row, peer, other, p, report, present, -, named⟩ := (mem_conflicts (by decide)).mp conflict
    rcases (yieldsTo_iff report).mp yields with code | ⟨code, lower⟩
    · exact ⟨r, row, .inl ⟨peer, other, p, report, present, by rw [code]; decide, named⟩⟩
    · exact ⟨r, row, .inr ⟨⟨peer, other, p, report, present, by rw [code]; decide, named⟩, lower⟩⟩
  · rintro ⟨r, row, ⟨peer, other, p, report, present, code, named⟩ |
      ⟨⟨peer, other, p, report, present, code, named⟩, lower⟩⟩
    all_goals
      have code := List.mem_singleton.mp code
      refine ⟨r, (mem_conflicts (by decide)).mpr ⟨row, peer, other, p, report, present, by rw [code]; decide, named⟩,
        (yieldsTo_iff report).mpr ?_⟩
    · exact .inl code
    · exact .inr ⟨code, lower⟩

theorem memberAllowsFlight_iff {r : Row} (peer : r.station ≠ s.own) : s.memberAllowsFlight r = true ↔
    ∃ p, r.report = some p ∧ r.age ≤ 2 ∧ p.cue.toNat = s.gov.cue ∧ (p.stateCode = 2#8 ∨ p.stateCode = 3#8) := by
  unfold State.memberAllowsFlight
  rw [Bool.and_eq_true, beq_iff_eq, presence_peer peer, peerPresence_fresh_iff]
  cases r.report with
  | none => simp
  | some p =>
    simp [Report.shows_iff (st := .primed) rfl, Report.shows_iff (st := .flying) rfl, StationState.code,
      ← BitVec.toNat_inj]

/-- The conditions of flight in the statements' words. -/
theorem mayFly_iff : s.mayFly = true ↔ s.loop.brakeSample = .released ∧ ∀ r ∈ s.peers.rows, r.station ≠ s.own →
    r.group = s.ownGroup → ∃ p, r.report = some p ∧ r.age ≤ 2 ∧ p.cue.toNat = s.gov.cue ∧
      (p.stateCode = 2#8 ∨ p.stateCode = 3#8) := by
  rw [State.mayFly, Bool.and_eq_true, beq_iff_eq, List.all_eq_true]
  refine and_congr_right fun _ => forall_congr' fun r => ?_
  rw [mem_members]
  exact ⟨fun h row peer group => (memberAllowsFlight_iff peer).mp (h ⟨row, peer, group⟩),
    fun h ⟨row, peer, group⟩ => (memberAllowsFlight_iff peer).mpr (h row peer group)⟩

theorem primedWork_abandons (primed : s.seq.state = .primed) (h : s.mustAbandon = true) :
    primedWork s = enterParking (refuse .airspace s) := by
  unfold primedWork; rw [if_pos primed, if_pos h]

theorem primedWork_flies (primed : s.seq.state = .primed) (h : ¬ s.mustAbandon = true) (may : s.mayFly = true) :
    primedWork s = toState .flying s := by
  unfold primedWork; rw [if_pos primed, if_neg h, if_pos may]

theorem primedWork_stays (primed : s.seq.state = .primed) (h : ¬ s.mustAbandon = true) (may : ¬ s.mayFly = true) :
    primedWork s = s := by
  unfold primedWork; rw [if_pos primed, if_neg h, if_neg may]

theorem loopWork_primed (e : Bool) (hs : s.seq.state = .primed) :
    loopWork e s = if s.loop.drive then speedCommand s.loop.target false s else s := by
  unfold loopWork; rw [hs]

/-! ### A station that a stop has begun in -/

/-- A stop with the first cause `f` has begun in a station whose sequencer was `left`. -/
def State.halts (f : FaultCode × Nat) (left : Sequencer) (y : State) : Prop :=
  y.stop.first = some f ∧ (y.seq = { left with state := .stopping } ∨ y.seq = { left with state := .stopped })

variable {f : FaultCode × Nat} {left : Sequencer}

theorem State.halts.same (h : y.halts f left) (seq : z.seq = y.seq) (stop : z.stop = y.stop) : z.halts f left := by
  unfold State.halts
  rw [seq, stop]; exact h

theorem State.halts.state (h : y.halts f left) : y.seq.state = .stopping ∨ y.seq.state = .stopped :=
  h.2.imp (congrArg Sequencer.state) (congrArg Sequencer.state)

theorem State.halts.first (h : y.halts f left) : y.stop.first.isSome = true := by rw [h.1]; rfl

theorem State.halts.cause (h : y.halts f left) (c : FaultCode) (src : Nat) : (takeCause c src y).halts f left := by
  refine ⟨((Op.cause y c src).ops.first h.first).trans h.1, ?_⟩
  have stops {x : State} (hx : x.seq = { y.seq with state := .stopped }) : x.seq = { left with state := .stopped } := by
    rcases h.2 with k | k <;> rw [hx, k]
  rcases h.state with k | k
  · obtain ⟨-, -, controlled, immediate, assist⟩ := takeCause_stopping (c := c) (src := src) k h.first
    cases category : c.category with
    | noStop => exact absurd category c.category_ne_noStop
    | controlled => rw [controlled category]; exact h.2
    | immediate =>
      obtain ⟨-, -, -, seq, -⟩ := immediate category
      exact .inr (stops seq)
    | assist =>
      obtain ⟨-, -, -, seq, -⟩ := assist category
      exact .inr (stops seq)
  · rw [takeCause_stopped_seq c src k]; exact h.2

theorem State.halts.loopWork (h : y.halts f left) (e : Bool) : (loopWork e y).halts f left := by
  rcases h.state with k | k
  · rw [loopWork_stopping e k]
    let c := y.computed true false
    have only := computed_only y true false
    have computed : c.halts f left := h.same only.seq only.stop
    have judged : (cycleComputation true false y).halts f left := by
      by_cases trip : y.params.tripTol < (y.nextError true).natAbs
      · rw [cycleComputation_trips trip]; exact computed.cause _ _
      · rw [cycleComputation_follows (Nat.not_lt.mp trip)]; exact computed
    generalize cycleComputation true false y = z at judged
    by_cases settles : z.settles
    · rw [settleTest_settles settles]
      let d := z.withStop { z.stop with phase := .settling }
      have stopping : z.seq.state = .stopping := settles.1
      obtain ⟨-, -, done, waits⟩ := settleRequest_ends (s := d) stopping rfl
      refine ⟨(congrArg StopController.first (settleRequest_only d).stop).trans judged.1, ?_⟩
      by_cases sure : d.loop.confirms
      · have still : z.seq = { left with state := .stopping } :=
          judged.2.resolve_right fun k => by cases stopping.symm.trans (congrArg Sequencer.state k)
        exact .inr ((done sure).1.trans (by rw [show d.seq = _ from still]))
      · rw [(waits sure).1]; exact judged.2
    · rw [settleTest_other settles]; exact judged
  · rw [loopWork_stopped e k]
    split
    · exact h.same rfl rfl
    · exact h

theorem State.halts.completion (h : y.halts f left) : completionTest y = y :=
  completionTest_other fun k => by rcases h.state with n | n <;> cases n.symm.trans k.1

theorem State.halts.reported (h : y.halts f left) (r : y.reportedAs z) : z.halts f left := by
  obtain ⟨only, -⟩ := r
  exact h.same only.seq only.stop

theorem State.halts.slackTimeout (h : y.halts f left) : (slackTimeoutWork y).halts f left := by
  unfold slackTimeoutWork
  split
  · exact (h.same (z := y.withLoad { y.load with slackDue := false }) rfl rfl).cause _ _
  · exact h

theorem State.halts.creep (h : y.halts f left) : (creepCheck y).halts f left := by
  unfold creepCheck
  split
  · exact h.cause _ _
  · exact h

/-- An OVERLOAD that the Load Monitor finds in a station that no stop has begun in begins one. -/
theorem monitor_halts (here : CheckPoint) (hr : y.recordEmpty)
    (state : y.seq.state = .ready ∨ y.seq.state.inFlight = true) (above : y.params.tMax < y.tens.latched) :
    (loadMonitorAt here y).halts (.overload, y.own) y.seq := by
  have operating : y.seq.state.operating = true ∧ y.seq.state ≠ .stopped := by
    cases hst : y.seq.state with
    | ready | primed | flying | parking => exact ⟨rfl, by decide⟩
    | start | stopping | stopped | locked => rw [hst] at state; exact absurd state (by decide)
  have raised : y.overloads := ⟨operating.1, operating.2, above⟩
  obtain ⟨first, -, -, -, controlled, -⟩ :=
    takeCause_opens (s := y.loadNoted) (c := .overload) (src := y.own) state hr
  obtain ⟨-, -, -, -, ready, moving⟩ := controlled rfl
  have checked : (loadCheck y).halts (.overload, y.own) y.seq := by
    rw [loadCheck_overload raised]
    refine ⟨first, ?_⟩
    by_cases k : y.seq.state = .ready
    · exact .inr (ready k)
    · exact .inl (moving k).1
  unfold loadMonitorAt
  split
  · exact checked
  · exact checked.slackTimeout

theorem State.halts.checks {here creep : CheckPoint} (h : y.halts f left) (hl : here ≠ load) :
    (checksAt here load creep y).halts f left := by
  rw [checksAt_eq, if_neg hl]
  split
  · exact h.creep
  · exact h

/-- A stop that has begun before the computation stands at the end of the sample. -/
theorem State.halts.finish {creep : CheckPoint} (h : y.halts f left) (early : earlyPlace load) (e : Bool) :
    (beginAttempt (finish load creep (Machine.loopWork e y))).halts f left := by
  have other (here : CheckPoint) (h : ¬ earlyPlace here) : here ≠ load := fun k => h (k ▸ early)
  refine State.halts.reported ?_ (beginAttempt_reported _)
  have worked := (h.loopWork e).checks (here := .beforeCompletion) (load := load) (creep := creep) (other _ (by decide))
  unfold Machine.finish
  rw [worked.completion]
  exact ((worked.checks (other _ (by decide))).reported (composeReport_reported _)).checks (other _ (by decide))

theorem enterParking_seq (s : State) : (enterParking s).seq = { s.seq with state := .parking } ∨
    (enterParking s).seq = { s.seq with state := .ready } := by
  by_cases hb : s.loop.brake = .set
  · rw [enterParking_eq, commandBrake_same (s := s.parkingEntry) hb]; exact .inl rfl
  · rw [enterParking_released hb]
    split
    · exact .inr rfl
    · exact .inl rfl

theorem completionTest_refusal (y : State) : (completionTest y).seq.refusal = y.seq.refusal := by
  by_cases complete : y.seq.state = .flying ∧ y.gov.achieved = y.cueEnd
  · rw [completionTest_completes complete]
    rcases enterParking_seq (y.withSeq { y.seq with complete := true }) with h | h <;> rw [h] <;> rfl
  · rw [completionTest_other complete]

/-- The test for completion leaves a station that no stop has begun in ready or in flight. -/
theorem completionTest_running (state : y.seq.state = .ready ∨ y.seq.state.inFlight = true) :
    (completionTest y).seq.state = .ready ∨ (completionTest y).seq.state.inFlight = true := by
  by_cases complete : y.seq.state = .flying ∧ y.gov.achieved = y.cueEnd
  · rw [completionTest_completes complete]
    rcases enterParking_state (y.withSeq { y.seq with complete := true }) with h | h <;> rw [h]
    · exact .inr rfl
    · exact .inl rfl
  · rw [completionTest_other complete]; exact state

/-- An OVERLOAD found after the computation begins a stop. -/
theorem finish_overloads (late : ¬ earlyPlace load) (hr : y.recordEmpty)
    (state : y.seq.state = .ready ∨ y.seq.state.inFlight = true) (above : y.params.tMax < y.tens.latched) :
    ∃ left : Sequencer, left.refusal = y.seq.refusal ∧
      (beginAttempt (finish load .beforeSequencer y)).halts (.overload, y.own) left := by
  let z := completionTest y
  have only := completionTest_only y
  have refusal := completionTest_refusal y
  have running := completionTest_running state
  have empty : z.recordEmpty := by unfold State.recordEmpty; rw [only.stop]; exact hr
  have heavy : z.params.tMax < z.tens.latched := by rw [only.params, only.tens]; exact above
  have own : z.own = y.own := congrArg Params.station only.params
  suffices ended : ∃ left : Sequencer, left.refusal = y.seq.refusal ∧
      (finish load .beforeSequencer y).halts (.overload, y.own) left by
    obtain ⟨left, same, halts⟩ := ended
    exact ⟨left, same, halts.reported (beginAttempt_reported _)⟩
  cases load with
  | beforeSequencer | beforeComputation => exact absurd (by decide) late
  | beforeCompletion =>
    have halts := monitor_halts .beforeCompletion hr state above
    refine ⟨y.seq, rfl, ?_⟩
    show (composeReport (completionTest (loadMonitorAt .beforeCompletion y))).halts _ _
    rw [halts.completion]
    exact halts.reported (composeReport_reported _)
  | beforeReport =>
    have halts := monitor_halts .beforeReport empty running heavy
    rw [own] at halts
    exact ⟨z.seq, refusal, halts.reported (composeReport_reported _)⟩
  | afterReport =>
    have r := composeReport_reported z
    obtain ⟨only', -⟩ := id r
    have halts := monitor_halts (y := composeReport z) .afterReport
      (by unfold State.recordEmpty; rw [only'.stop]; exact empty) (by rw [only'.seq]; exact running)
      (by rw [only'.params, only'.tens]; exact heavy)
    rw [show (composeReport z).own = y.own from (congrArg Params.station only'.params).trans own, only'.seq] at halts
    exact ⟨z.seq, refusal, halts⟩

/-! ### A station that rests after the Sequencer's tests -/

/-- A station in READY, PRIMED or PARKING at its Line Loop's work, with nothing begun by the Load Monitor. -/
structure Rests (s : State) (load : CheckPoint) (found : StationState) (v : State) : Prop where
  empty : s.recordEmpty
  state : v.seq.state = .ready ∨ v.seq.state = .primed ∨ v.seq.state = .parking
  stop : v.stop = s.stop
  link : v.link = s.link
  params : v.params = s.params
  tens : v.tens = s.tens
  early : earlyPlace load → s.loadWritten found v ∧ ¬ s.params.tMax < s.tens.latched
  late : ¬ earlyPlace load → s.weighsAs v

/-- The Line Loop at rest holds its target where its drive is on. -/
theorem Rests.worked (h : Rests s load found v) (e : Bool) :
    loopWork e v = if v.seq.state ≠ .ready ∧ v.loop.drive = true then speedCommand v.loop.target false v else v := by
  rcases h.state with k | k | k
  · rw [loopWork_ready e k, if_neg fun n => n.1 k]
  · rw [loopWork_primed e k, if_congr (and_iff_right (by rw [k]; decide)) rfl rfl]
  · rw [loopWork_parking e k, if_congr (and_iff_right (by rw [k]; decide)) rfl rfl]

theorem Rests.workedOnly (h : Rests s load found v) (e : Bool) : v.changesOnly [.loop] (loopWork e v) := by
  rw [h.worked e]
  split
  · exact speedCommand_only v _ _
  · exact .refl

theorem Rests.workedLoop (h : Rests s load found v) (e : Bool) : (loopWork e v).loop.brake = v.loop.brake ∧
    (loopWork e v).loop.target = v.loop.target ∧ (loopWork e v).loop.drive = v.loop.drive := by
  rw [h.worked e]
  split <;> exact ⟨rfl, rfl, rfl⟩

theorem Rests.sample (h : Rests s load found v) (e : Bool) :
    let t := beginAttempt (finish load .beforeSequencer (loopWork e v))
    s.endsIn (if earlyPlace load then found else v.seq.state) v.seq t ∧ (loopWork e v).keepsLine t := by
  let y := loopWork e v
  have only := h.workedOnly e
  have rests : y.seq.state = v.seq.state := congrArg Sequencer.state only.seq
  have still : y.seq.state ≠ .flying := by
    rw [rests]; rcases h.state with k | k | k <;> rw [k] <;> decide
  have same : completionTest y = y := completionTest_other fun k => still k.1
  have holds : y.gov.holds = v.gov.holds := congrArg Governor.holds only.gov
  obtain ⟨ends, keeps⟩ := finish_endsIn (s := s) (y := y) (load := load) (found := found) h.empty
    (only.stop.trans h.stop) (only.link.trans h.link)
    (by rw [same, rests]; rcases h.state with k | k | k <;> rw [k] <;> decide)
    (only.params.trans h.params) (only.tens.trans h.tens)
    (fun k => ⟨(h.early k).1.same holds only.load, (h.early k).2⟩)
    (fun k => (h.late k).of only.tens only.params only.peers only.load holds) (.inr (.inr (.inl still)))
  rw [same] at ends keeps
  rw [rests, ite_self, show y.seq = v.seq from only.seq] at ends
  exact ⟨ends, keeps⟩

end Sys2Proof.Machine
end

section
/-!
SUPPORT. The length samples in PRIMED: the state that the Sequencer's tests and the Load Monitor leave to the
computation (chapters 1 and 8).
-/

namespace Sys2Proof.Machine

set_option Elab.async false

variable {s t v y z : State} {load : CheckPoint} {found : StationState}

/-! ### Up to the computation -/

/-- What the Sequencer's tests find of a sample in PRIMED in which the Load Monitor has stopped nothing. -/
def State.beforeTests (s : State) (load : CheckPoint) : State :=
  if load = .beforeSequencer then s.loadNoted else s

theorem beforeTests_tests (s : State) (load : CheckPoint) :
    (s.beforeTests load).mustAbandon = s.mustAbandon ∧ (s.beforeTests load).mayFly = s.mayFly := by
  unfold State.beforeTests
  split <;> exact ⟨rfl, rfl⟩

theorem beforeTests_only (s : State) (load : CheckPoint) : s.changesOnly [.gov, .load] (s.beforeTests load) := by
  unfold State.beforeTests
  split
  · exact loadNoted_only s
  · exact .refl

theorem beforeTests_gov (s : State) (load : CheckPoint) :
    (s.beforeTests load).gov = { s.gov with holds := (s.beforeTests load).gov.holds } := by
  unfold State.beforeTests
  split <;> rfl

/-- The Load Monitor's notes that the tests find already there, and what is left to weigh by. -/
theorem beforeTests_weighs (s : State) (load : CheckPoint) (primed : s.seq.state = .primed) :
    (load = .beforeSequencer → s.loadWritten .primed (s.beforeTests load)) ∧
      (load ≠ .beforeSequencer → s.weighsAs (s.beforeTests load)) := by
  unfold State.beforeTests
  refine ⟨fun h => ?_, fun h => ?_⟩
  · rw [if_pos h, ← primed]; exact (State.weighsAs.refl s).written
  · rw [if_neg h]; exact .refl s

theorem untilLoop_primed (primed : s.seq.state = .primed) (calm : load = .beforeSequencer → ¬ s.overloads) :
    let p := primedWork (s.beforeTests load)
    untilLoop load .beforeSequencer s =
        (if load = .beforeComputation then loadMonitorAt .beforeComputation p else p) ∧
      entersFlight load .beforeSequencer s = (p.seq.state == .flying) := by
  have still (y : State) (h : y.seq.state = .primed) : creepCheck y = y :=
    creepCheck_moving (by rw [h]; decide) (by rw [h]; decide)
  have first : checksAt .beforeSequencer load .beforeSequencer s = s.beforeTests load := by
    unfold State.beforeTests
    rw [checksAt_eq, if_pos rfl]
    by_cases h : load = .beforeSequencer
    · subst h
      rw [if_pos rfl, if_pos rfl, loadMonitorAt_notFlying _ (by rw [primed]; decide), loadCheck_silent (calm rfl)]
      exact still _ primed
    · rw [if_neg (Ne.symm h), if_neg h, still s primed]
  have state : (s.beforeTests load).seq.state = .primed :=
    (congrArg Sequencer.state (beforeTests_only s load).seq).trans primed
  intro p
  refine ⟨?_, ?_⟩
  · unfold untilLoop
    rw [first, checksAt_eq, if_neg (by decide)]
    exact if_congr eq_comm rfl rfl
  · unfold entersFlight
    rw [first, state]
    rfl

/-- An OVERLOAD found before the tests begins a stop, and leaves nothing to test. -/
theorem untilLoop_primed_overloaded (primed : s.seq.state = .primed) (hr : s.recordEmpty)
    (above : s.params.tMax < s.tens.latched) :
    (untilLoop .beforeSequencer .beforeSequencer s).halts (.overload, s.own) s.seq := by
  have halts := (monitor_halts .beforeSequencer hr (.inr (by rw [primed]; rfl)) above).creep
  show (primedWork (creepCheck (loadMonitorAt .beforeSequencer s))).halts _ _
  rw [primedWork_other fun h => by rcases halts.state with k | k <;> cases k.symm.trans h]
  exact halts

/-! ### The three ways on -/

theorem refuse_parks (b : State) (released : b.loop.brake = .release) (drive : b.loop.drive = true) :
    let p := enterParking (refuse .airspace b)
    p.seq = { b.seq with refusal := .airspace, state := if b.loop.brakeSample = .set then .ready else .parking } ∧
      p.gov = { b.gov with dPrev := 0 } ∧ p.loop.brake = .set ∧ p.loop.target = b.loop.target ∧
      (p.loop.drive = true ↔ b.loop.brakeSample = .released) := by
  obtain ⟨seq, brake, target, -, on⟩ := enterParking_ends (s := refuse .airspace b) released
  refine ⟨seq, enterParking_gov _, brake, target, ?_⟩
  rw [on]
  exact and_iff_left drive

/-- A station that abandons its prime rests in PARKING or READY. -/
theorem abandons_rests (hr : s.recordEmpty) (primed : s.seq.state = .primed) (released : s.loop.brake = .release)
    (drive : s.loop.drive = true) (abandons : s.mustAbandon = true)
    (light : earlyPlace load → ¬ s.params.tMax < s.tens.latched) :
    let left : Sequencer := { s.seq with
      refusal := .airspace
      state := if s.loop.brakeSample = .set then .ready else .parking }
    let v := untilLoop load .beforeSequencer s
    Rests s load (if load = .beforeSequencer then .primed else left.state) v ∧ v.seq = left ∧
      v.gov = { s.gov with dPrev := 0, holds := v.gov.holds } ∧ v.loop.brake = .set ∧
      v.loop.target = s.loop.target ∧ (v.loop.drive = true ↔ s.loop.brakeSample = .released) := by
  intro left v
  let b := s.beforeTests load
  let p := enterParking (refuse .airspace b)
  have bonly := beforeTests_only s load
  have bgov := beforeTests_gov s load
  obtain ⟨written, weighs⟩ := beforeTests_weighs s load primed
  obtain ⟨seq, gov, brake, target, on⟩ := refuse_parks b ((congrArg LineLoop.brake bonly.loop).trans released)
    ((congrArg LineLoop.drive bonly.loop).trans drive)
  have ponly : b.changesOnly [.seq, .gov, .loop, .creep] p :=
    ((refuse_only b .airspace).next (enterParking_only _) (l := [.seq, .gov, .loop, .creep]))
  have holds : p.gov.holds = b.gov.holds := by rw [gov]
  rw [show b.loop = s.loop from bonly.loop, show b.seq = s.seq from bonly.seq] at seq
  rw [show b.loop = s.loop from bonly.loop] at target on
  have state : p.seq.state = .ready ∨ p.seq.state = .parking := by
    rw [seq]
    show (if _ then StationState.ready else _) = _ ∨ (if _ then StationState.ready else StationState.parking) = _
    split
    · exact .inl rfl
    · exact .inr rfl
  have still : p.seq.state ≠ .flying := by rcases state with k | k <;> rw [k] <;> decide
  have all : s.changesOnly [.gov, .load, .seq, .loop, .creep] p := bonly.next ponly
  have weighsP (h : load ≠ .beforeSequencer) : s.weighsAs p :=
    (weighs h).of ponly.tens ponly.params ponly.peers ponly.load holds
  have until_ : v = if load = .beforeComputation then p.loadNoted else p := by
    obtain ⟨until_, -⟩ := untilLoop_primed (load := load) primed fun h k => light (.inl h) k.2.2
    have tested : primedWork b = p := primedWork_abandons ((congrArg Sequencer.state bonly.seq).trans primed)
      ((beforeTests_tests s load).1.trans abandons)
    rw [show v = _ from until_, tested]
    split
    next h =>
      exact loadMonitorAt_silent _ (weighsP (by rw [h]; decide))
        (fun k => light (.inr h) (by rw [← all.params, ← all.tens]; exact k.2.2)) (.inr fun k => absurd k still)
    next => rfl
  have vonly : p.changesOnly [.gov, .load] v := by
    rw [until_]
    split
    · exact loadNoted_only p
    · exact .refl
  have vgov : v.gov = { p.gov with holds := v.gov.holds } := by
    rw [until_]
    split <;> rfl
  have only : s.changesOnly [.gov, .load, .seq, .loop, .creep] v := all.next vonly
  refine ⟨{
    empty := hr
    state := by rw [vonly.seq]; exact state.imp_right .inr
    stop := only.stop
    link := only.link
    params := only.params
    tens := only.tens
    early := fun h => ⟨?_, light h⟩
    late := fun h => ?_ }, vonly.seq.trans seq, ?_, ?_, ?_, ?_⟩
  · rcases h with h | h
    · rw [if_pos h, until_, if_neg (by rw [h]; decide)]
      exact (written h).same holds ponly.load
    · rw [if_neg (by rw [h]; decide), until_, if_pos h]
      have noted := (weighsP (by rw [h]; decide)).written
      rw [seq] at noted
      exact noted
  · rw [until_, if_neg fun k => h (.inr k)]
    exact weighsP fun k => h (.inl k)
  · rw [vgov, gov, show b.gov = _ from bgov]
  · rw [vonly.loop]; exact brake
  · rw [vonly.loop]; exact target
  · rw [vonly.loop]; exact on

/-- A station that neither abandons its prime nor flies rests in PRIMED. -/
theorem stays_rests (hr : s.recordEmpty) (primed : s.seq.state = .primed) (keeps : ¬ s.mustAbandon = true)
    (waits : ¬ s.mayFly = true) (light : earlyPlace load → ¬ s.params.tMax < s.tens.latched) :
    let v := untilLoop load .beforeSequencer s
    Rests s load .primed v ∧ s.changesOnly [.gov, .load] v ∧ v.gov = { s.gov with holds := v.gov.holds } := by
  intro v
  let b := s.beforeTests load
  have bonly := beforeTests_only s load
  have state : b.seq.state = .primed := (congrArg Sequencer.state bonly.seq).trans primed
  have until_ : v = if earlyPlace load then s.loadNoted else s := by
    obtain ⟨until_, -⟩ := untilLoop_primed (load := load) primed fun h k => light (.inl h) k.2.2
    obtain ⟨abandons, flies⟩ := beforeTests_tests s load
    rw [show v = _ from until_, primedWork_stays state (by rw [abandons]; exact keeps) (by rw [flies]; exact waits),
      show b = if load = .beforeSequencer then s.loadNoted else s from rfl]
    by_cases h : load = .beforeComputation
    · rw [if_pos h, if_neg (by rw [h]; decide), if_pos (.inr h), loadMonitorAt_notFlying _ (by rw [primed]; decide),
        loadCheck_silent fun k => light (.inr h) k.2.2]
    · rw [if_neg h]
      exact if_congr (or_iff_left h).symm rfl rfl
  have only : s.changesOnly [.gov, .load] v := by
    rw [until_]
    split
    · exact loadNoted_only s
    · exact .refl
  refine ⟨{
    empty := hr
    state := by rw [only.seq]; exact .inr (.inl primed)
    stop := only.stop
    link := only.link
    params := only.params
    tens := only.tens
    early := fun h => ⟨by rw [until_, if_pos h, ← primed]; exact (State.weighsAs.refl s).written, light h⟩
    late := fun h => by rw [until_, if_neg h]; exact .refl s }, only, ?_⟩
  rw [until_]
  split <;> rfl

/-- The reasons are judged in PRIMED as in FLYING (R130). -/
theorem loadHolds_flying (primed : s.seq.state = .primed) : (toState .flying s).loadHolds = s.loadHolds := by
  unfold State.loadHolds State.evaluatesLoad
  rw [primed]
  rfl

/-- A station that takes off flies. -/
theorem takesOff_flies (hr : s.recordEmpty) (primed : s.seq.state = .primed) (released : s.loop.brake = .release)
    (drive : s.loop.drive = true) (keeps : ¬ s.mustAbandon = true) (may : s.mayFly = true)
    (calm : earlyPlace load → ¬ s.params.tMax < s.tens.latched ∧ ¬ s.slackEnds) :
    let seen := if earlyPlace load then s.loadNoted else s
    let v := untilLoop load .beforeSequencer s
    Flies s load (if load = .beforeSequencer then .primed else .flying) v ∧ entersFlight load .beforeSequencer s = true ∧
      v.seq = { s.seq with state := .flying } ∧ s.changesOnly [.gov, .load, .seq] v ∧
      v.gov = { s.gov with holds := seen.gov.holds } := by
  intro seen v
  let b := s.beforeTests load
  let p := toState .flying b
  have bonly := beforeTests_only s load
  have state : b.seq.state = .primed := (congrArg Sequencer.state bonly.seq).trans primed
  have ponly : b.changesOnly [.seq] p := withSeq_only b _
  obtain ⟨written, weighs⟩ := beforeTests_weighs s load primed
  have weighsP (h : load ≠ .beforeSequencer) : s.weighsAs p := (weighs h).of rfl rfl rfl rfl rfl
  obtain ⟨until_, entering⟩ := untilLoop_primed (load := load) primed fun h k => (calm (.inl h)).1 k.2.2
  obtain ⟨abandons, flies⟩ := beforeTests_tests s load
  have tested : primedWork b = p :=
    primedWork_flies state (by rw [abandons]; exact keeps) (flies.trans may)
  rw [show primedWork (s.beforeTests load) = p from tested] at until_ entering
  have until_ : v = if load = .beforeComputation then p.loadNoted else p := by
    rw [show v = _ from until_]
    split
    next h =>
      exact loadMonitorAt_silent _ (weighsP (by rw [h]; decide))
        (fun k => (calm (.inr h)).1 (by rw [← bonly.params, ← bonly.tens]; exact k.2.2)) (.inr fun _ => (calm (.inr h)).2)
    next => rfl
  have vonly : p.changesOnly [.gov, .load] v := by
    rw [until_]
    split
    · exact loadNoted_only p
    · exact .refl
  have seq : v.seq = { s.seq with state := .flying } := by
    rw [vonly.seq]
    show { b.seq with state := .flying } = _
    rw [bonly.seq]
  have only : s.changesOnly [.gov, .load, .seq] v :=
    (bonly.next ponly (l := [.gov, .load, .seq])).next vonly
  refine ⟨{
    empty := hr
    flying := by rw [seq]
    stop := only.stop
    link := only.link
    params := only.params
    tens := only.tens
    brake := (congrArg LineLoop.brake only.loop).trans released
    drive := (congrArg LineLoop.drive only.loop).trans drive
    early := fun h => ⟨?_, (calm h).1⟩
    late := fun h => ?_ }, entering, seq, only, ?_⟩
  · rcases h with h | h
    · rw [if_pos h, until_, if_neg (by rw [h]; decide)]
      exact (written h).same rfl rfl
    · rw [if_neg (by rw [h]; decide), until_, if_pos h]
      exact (weighsP (by rw [h]; decide)).written
  · rw [until_, if_neg fun k => h (.inr k)]
    exact weighsP fun k => h (.inl k)
  · rw [until_]
    show (if load = .beforeComputation then p.loadNoted else p).gov = { s.gov with
      holds := (if earlyPlace load then s.loadNoted else s).gov.holds }
    by_cases h : load = .beforeComputation
    · have untested : b = s := if_neg (by rw [h]; decide)
      rw [if_pos h, if_pos (.inr h)]
      show { p.gov with holds := (toState .flying b).loadHolds } = _
      rw [loadHolds_flying state, show p.gov = b.gov from rfl, untested]
      rfl
    · rw [if_neg h]
      show (if load = .beforeSequencer then s.loadNoted else s).gov = _
      by_cases k : load = .beforeSequencer
      · rw [if_pos k, if_pos (.inl k)]; rfl
      · rw [if_neg k, if_neg (not_or.mpr ⟨k, h⟩)]

/-- What a computation reads of the state beside the measured length. -/
theorem newProgress_congr (b : Bool) (gov : y.gov = z.gov) (params : y.params = z.params) (path : y.path = z.path)
    (peers : y.peers = z.peers) : y.newProgress b = z.newProgress b ∧ y.nextSegment b = z.nextSegment b ∧
      y.nextTarget b = z.nextTarget b ∧ y.cueEnd = z.cueEnd := by
  cases y; cases z
  dsimp only at gov params path peers
  subst gov params path peers
  exact ⟨rfl, rfl, rfl, rfl⟩

/-- The Sequencer's tests in PRIMED leave a station that no stop has begun in. -/
theorem primedWork_running (primed : s.seq.state = .primed) : (primedWork s).seq.state = .ready ∨
    (primedWork s).seq.state.inFlight = true := by
  by_cases leave : s.mustAbandon = true
  · rw [primedWork_abandons primed leave]
    rcases enterParking_state (refuse .airspace s) with k | k <;> rw [k]
    · exact .inr rfl
    · exact .inl rfl
  · by_cases may : s.mayFly = true
    · rw [primedWork_flies primed leave may]; exact .inr rfl
    · rw [primedWork_stays primed leave may, primed]; exact .inr rfl

/-- The Line Loop's and the governor's work of a station that no stop has begun in, without a trip. -/
theorem loopWork_running (e : Bool) (state : y.seq.state = .ready ∨ y.seq.state.inFlight = true)
    (near : y.seq.state = .flying → (y.nextError false).natAbs ≤ y.params.tripTol) :
    y.changesOnly [.gov, .loop] (loopWork e y) := by
  have held : y.changesOnly [.gov, .loop] (if y.loop.drive then speedCommand y.loop.target false y else y) := by
    split
    · exact (speedCommand_only y _ _).mono
    · exact .refl
  cases hst : y.seq.state with
  | ready => rw [loopWork_ready e hst]; exact .refl
  | primed => rw [loopWork_primed e hst]; exact held
  | parking => rw [loopWork_parking e hst]; exact held
  | flying => rw [loopWork_flying e hst, cycleComputation_follows (near hst)]; exact computed_only y false e
  | start | stopping | stopped | locked => rw [hst] at state; exact absurd state (by decide)

/-- An OVERLOAD in PRIMED begins a stop wherever the Load Monitor finds it, if nothing trips before. -/
theorem primed_overloaded (primed : s.seq.state = .primed) (hr : s.recordEmpty)
    (above : s.params.tMax < s.tens.latched) (later : load ≠ .beforeSequencer) (e : Bool)
    (near : ¬ earlyPlace load → (primedWork s).seq.state = .flying →
      ((primedWork s).nextError false).natAbs ≤ s.params.tripTol) :
    ∃ left : Sequencer, left.refusal = (primedWork s).seq.refusal ∧
      (beginAttempt (finish load .beforeSequencer (loopWork e (untilLoop load .beforeSequencer s)))).halts
        (.overload, s.own) left := by
  let p := primedWork s
  have only := primedWork_only s
  have running := primedWork_running primed
  have empty : p.recordEmpty := by unfold State.recordEmpty; rw [only.stop]; exact hr
  have heavy : p.params.tMax < p.tens.latched := by rw [only.params, only.tens]; exact above
  have own : p.own = s.own := congrArg Params.station only.params
  obtain ⟨until_, -⟩ := untilLoop_primed (load := load) primed fun h => absurd h later
  rw [until_, show s.beforeTests load = s from if_neg later]
  by_cases bC : load = .beforeComputation
  · have halts := (monitor_halts .beforeComputation empty running heavy).finish (load := load)
      (creep := .beforeSequencer) (.inr bC) e
    rw [own] at halts
    rw [if_pos bC]
    exact ⟨p.seq, rfl, halts⟩
  · have late : ¬ earlyPlace load := not_or.mpr ⟨later, bC⟩
    rw [if_neg bC]
    have worked := loopWork_running e running fun h => by rw [only.params]; exact near late h
    obtain ⟨left, same, halts⟩ := finish_overloads (y := loopWork e p) late
      (by unfold State.recordEmpty; rw [worked.stop]; exact empty) (by rw [worked.seq]; exact running)
      (by rw [worked.params, worked.tens]; exact heavy)
    rw [show (loopWork e p).own = s.own from (congrArg Params.station worked.params).trans own] at halts
    exact ⟨left, same.trans (by rw [worked.seq]), halts⟩

/-- Settles O57. -/
theorem primedSampleMakesItsTests : Obligations.PrimedSampleMakesItsTests := by
  unfold Obligations.PrimedSampleMakesItsTests
  intro w load l s quiet reading primed hr hfit leaves read overloaded abandons flies seen q target error achieved
  obtain ⟨x, length, run⟩ := exec_sample load .beforeSequencer quiet reading (by rw [primed]; rfl) leaves
  let s₀ := s.withLen x
  have released : s₀.loop.brake = .release := hfit.released (.inl primed)
  have drive : s₀.loop.drive = true := by
    show s.loop.drive = true
    rw [hfit.drive, State.driveWanted, primed]
  have abandonsIff : s₀.mustAbandon = true ↔ abandons := mustAbandon_iff
  have fliesIff : s₀.mayFly = true ↔ flies := mayFly_iff
  let v := untilLoop load .beforeSequencer s₀
  let e := entersFlight load .beforeSequencer s₀
  have ended : beginAttempt (cycleWork load .beforeSequencer s₀) =
      beginAttempt (finish load .beforeSequencer (loopWork e v)) := rfl
  refine ⟨_, run, ?_⟩
  rw [ended]
  generalize ht : beginAttempt (finish load .beforeSequencer (loopWork e v)) = t
  refine ⟨fun leave calm => ?_, fun keeps waits calm => ?_, fun keeps may calm => ?_, fun above near early => ?_⟩
  · intro left
    have light (h : earlyPlace load) : ¬ s.params.tMax < s.tens.latched :=
      calm.resolve_left fun k => by rcases h with h | h <;> cases h.symm.trans k
    obtain ⟨rests, seq, gov, brake, aim, on⟩ :=
      abandons_rests (s := s₀) hr primed released drive (abandonsIff.mpr leave) light
    have only := rests.workedOnly e
    obtain ⟨brake', aim', on'⟩ := rests.workedLoop e
    obtain ⟨ends, loop, -, tgov⟩ := rests.sample e
    rw [ht] at ends loop tgov
    rw [seq] at ends
    rw [only.gov, gov] at tgov
    have found : (if earlyPlace load then if load = .beforeSequencer then .primed else left.state else left.state) =
        if load = .beforeSequencer then .primed else left.state := by
      by_cases h : earlyPlace load
      · rw [if_pos h]
      · rw [if_neg h, if_neg fun k => h (.inl k)]
    have ends : s.endsIn (if load = .beforeSequencer then .primed else left.state) left t := by rw [← found]; exact ends
    rw [tgov, loop]
    exact ⟨ends, rfl, rfl, rfl, brake'.trans brake, aim'.trans aim, by rw [on']; exact on⟩
  · have light (h : earlyPlace load) : ¬ s.params.tMax < s.tens.latched :=
      calm.resolve_left fun k => h.elim k.1 k.2
    obtain ⟨rests, only, gov⟩ := stays_rests (s := s₀) hr primed (fun k => keeps (abandonsIff.mp k))
      (fun k => waits (fliesIff.mp k)) light
    obtain ⟨ends, loop, -, tgov⟩ := rests.sample e
    rw [ht] at ends loop tgov
    have state : v.seq.state = .primed := (congrArg Sequencer.state only.seq).trans primed
    have held : loopWork e v = speedCommand s.loop.target false v := by
      rw [loopWork_primed e state, show v.loop = s₀.loop from only.loop]
      exact if_pos drive
    rw [held] at loop tgov
    rw [show v.seq = s.seq from only.seq, primed, ite_self] at ends
    rw [tgov]
    refine ⟨ends, loop.trans ?_, ?_⟩
    · exact speedCommand_loop_congr _ _ only.loop only.params (by rw [show v.len = x from only.len]; exact length)
    · show v.gov.q = _ ∧ v.gov.k = _ ∧ v.gov.dPrev = _ ∧ v.gov.achieved = _ ∧ v.gov.lag = _
      rw [show v.gov = _ from gov]
      exact ⟨rfl, rfl, rfl, rfl, rfl⟩
  · intro found
    have calmEarly (h : earlyPlace load) : ¬ s.params.tMax < s.tens.latched ∧ ¬ s.slackEnds :=
      calm.resolve_left fun k => by rcases h with h | h <;> cases h.symm.trans k
    obtain ⟨takesOff, entering, seq, only, gov⟩ := takesOff_flies (s := s₀) hr primed released drive
      (fun k => keeps (abandonsIff.mp k)) (fliesIff.mpr may) calmEarly
    have seenIs : seen = if earlyPlace load then s.loadNoted else s := by
      show (if earlyPlace load then loadCheck s else s) = _
      split
      next h => exact loadCheck_silent fun k => (calmEarly h).1 k.2.2
      next => rfl
    have seenOnly : s.changesOnly [.gov, .load] seen := by
      rw [seenIs]
      split
      · exact loadNoted_only s
      · exact .refl
    have seenGov : v.gov = seen.gov := by
      rw [show v.gov = _ from gov, seenIs]
      by_cases h : earlyPlace load
      · rw [if_pos h, if_pos h]; rfl
      · rw [if_neg h, if_neg h]; rfl
    obtain ⟨progress, segment, aim, done⟩ := newProgress_congr false seenGov (only.params.trans seenOnly.params.symm)
      (only.path.trans seenOnly.path.symm) (only.peers.trans seenOnly.peers.symm)
    have same : seen.nextTarget false = target ∧ seen.cueEnd = s.cueEnd ∧ seen.gov.q = s.gov.q ∧
        seen.gov.achieved = s.gov.achieved := by
      show seen.targetAt (seen.nextSegment false) (seen.newProgress false) =
        s.targetAt (seen.nextSegment false) (seen.newProgress false) ∧ _
      rw [seenIs]
      split <;> exact ⟨rfl, rfl, rfl, rfl⟩
    obtain ⟨aimed, full, before, flown⟩ := same
    have progress : v.newProgress false = q := progress
    have aim : v.nextTarget false = target := aim.trans aimed
    have params : v.params = s.params := only.params
    have err : v.nextError false = (target : Int) - (l : Int) := by
      show (v.nextTarget false : Int) - (v.len.measured : Int) = _
      rw [aim, show v.len = x from only.len, length]
    have flown : v.flownTo = achieved := by
      unfold State.flownTo
      rw [err, params, progress, show v.gov = seen.gov from seenGov, flown]
    have line : (speedCommand (v.nextTarget false) true v).loop = (speedCommand target true read).loop := by
      rw [aim]
      exact speedCommand_loop_congr _ _ only.loop only.params (by rw [show v.len = x from only.len]; exact length)
    obtain ⟨⟨tq, tk, -, tachieved, -, taim, -⟩, goesOn, completes, trips⟩ := takesOff.sample true calm
    rw [show e = true from entering] at ht
    rw [ht] at tq tk tachieved taim
    rw [ht, params, err, flown, show v.cueEnd = s.cueEnd from done.trans full] at goesOn completes
    rw [ht, params, err] at trips
    refine ⟨tq.trans progress, tk.trans segment, tachieved.trans flown, taim.trans aim, fun near short => ?_,
      fun near at_ => ?_, fun trip => ?_⟩
    · obtain ⟨ends, -, loop, dPrev⟩ := goesOn near short
      have place : (if earlyPlace load then if load = .beforeSequencer then .primed else .flying else .flying) =
          found .flying := by
        show _ = if load = .beforeSequencer then StationState.primed else if _ then .flying else .flying
        rw [ite_self]
        by_cases h : earlyPlace load
        · rw [if_pos h]
        · rw [if_neg h, if_neg fun k => h (.inl k)]
      rw [place, seq] at ends
      rw [line] at loop
      rw [progress, show v.gov = seen.gov from seenGov, before] at dPrev
      exact ⟨ends, loop, dPrev⟩
    · obtain ⟨ends, dPrev, -⟩ := completes near at_
      have parked : (if v.loop.brakeSample = .set then StationState.ready else .parking) = .parking := by
        rw [show v.loop = s.loop from only.loop, may.1]; rfl
      have place : (if earlyPlace load then if load = .beforeSequencer then .primed else .flying
          else if load = CheckPoint.beforeCompletion then .flying else .parking) = found .parking := by
        show _ = if load = .beforeSequencer then StationState.primed else
          if load = .beforeComputation ∨ load = .beforeCompletion then .flying else .parking
        cases load <;> rfl
      rw [parked, place, seq] at ends
      exact ⟨ends, dPrev⟩
    · obtain ⟨-, stopped, first, later, category, -⟩ := trips trip
      rw [seq] at stopped
      exact ⟨stopped, first.trans (by rw [show v.own = s.own from congrArg Params.station params]), later, category⟩
  · by_cases bS : load = .beforeSequencer
    · subst bS
      have halts := (untilLoop_primed_overloaded (s := s₀) primed hr above).finish (.inl rfl) e (creep := .beforeSequencer)
      rw [ht] at halts
      refine ⟨halts.1, halts.state, fun _ => ?_, fun k => absurd rfl k⟩
      rcases halts.2 with k | k <;> rw [k] <;> rfl
    · have near' (late : ¬ earlyPlace load) (flying : (primedWork s₀).seq.state = .flying) :
          ((primedWork s₀).nextError false).natAbs ≤ s.params.tripTol := by
        have keeps : ¬ s₀.mustAbandon = true := fun k => by
          rw [primedWork_abandons (s := s₀) primed k] at flying
          rcases enterParking_state (refuse .airspace s₀) with n | n <;> cases n.symm.trans flying
        have may : s₀.mayFly = true := by
          by_contra k
          rw [primedWork_stays (s := s₀) primed keeps k] at flying
          cases flying.symm.trans primed
        have bound := near bS (fun k => keeps (abandonsIff.mpr k)) (fliesIff.mp may)
        have seenIs : seen = s := if_neg late
        have err : (primedWork s₀).nextError false = (target : Int) - (l : Int) := by
          rw [primedWork_flies (s := s₀) primed keeps may, ← length]
          show _ = (s.targetAt (seen.nextSegment false) (seen.newProgress false) : Int) - (x.measured : Int)
          rw [seenIs]
          rfl
        rw [err]
        exact bound
      obtain ⟨left, same, halts⟩ := primed_overloaded (s := s₀) primed hr above bS e near'
      rw [ht] at halts
      refine ⟨halts.1, halts.state, fun k => absurd k bS, fun _ leave => ?_⟩
      have refusal : left.refusal = .airspace := by
        rw [same, primedWork_abandons (s := s₀) primed (abandonsIff.mpr leave)]
        rcases enterParking_seq (refuse .airspace s₀) with k | k <;> rw [k] <;> rfl
      rcases halts.2 with k | k <;> rw [k] <;> exact refusal

end Sys2Proof.Machine
end

section
/-!
SUPPORT. A flight that the Load Monitor stops inside its sample (chapters 6, 8 and 9).
-/

namespace Sys2Proof.Machine

set_option Elab.async false

variable {s t v y z : State} {load creep : CheckPoint}

/-! ### The stop that the Load Monitor begins (R129, R131) -/

/-- A controlled stop begun in a flight, with its STOP frame requested. -/
def State.begins (s : State) (c : FaultCode) (later : BitVec 24) : State :=
  ((s.withSeq { s.seq with state := .stopping }).withStop { s.stop with
    first := some (c, s.own)
    later := later
    category := .controlled
    phase := .ramping
    stopTimer := 0 }).withLink (s.stopRequested c)

/-- The cause that a check in FLYING raises first (assumption log 13). -/
def State.loadCause (s : State) : FaultCode := if s.params.tMax < s.tens.latched then .overload else .slackTimeout

/-- The later-fault set that a check in FLYING leaves. -/
def State.laterFound (s : State) (later : BitVec 24) : Prop :=
  (s.params.tMax < s.tens.latched → s.slackEnds → later = addLater 0#24 .slackTimeout) ∧
    (¬ (s.params.tMax < s.tens.latched ∧ s.slackEnds) → later = 0#24)

theorem loadCause_over (h : s.params.tMax < s.tens.latched) : s.loadCause = .overload := if_pos h

theorem loadCause_light (h : ¬ s.params.tMax < s.tens.latched) : s.loadCause = .slackTimeout := if_neg h

/-- A controlled cause that is sent begins a stop in a flight. -/
theorem takeCause_begins {c : FaultCode} (controlled : c.category = .controlled) (sent : c.sent = true)
    (flying : y.seq.state = .flying) (hr : y.recordEmpty) : takeCause c y.own y = y.begins c 0#24 := by
  rw [takeCause_controlled_inFlight y.own controlled sent (by rw [flying]; rfl) hr, ← hr.2.1]
  rfl

/-- A check in FLYING that finds a cause stops the flight there. -/
theorem monitor_begins (here : CheckPoint) (inside : here ≠ .afterReport) (weighs : s.weighsAs y) (hr : y.recordEmpty)
    (flying : y.seq.state = .flying) (found : s.params.tMax < s.tens.latched ∨ s.slackEnds) :
    ∃ n later, loadMonitorAt here y = (y.withNotes y.loadHolds n).begins s.loadCause later ∧ s.laterFound later := by
  obtain ⟨tens, params, -⟩ := id weighs
  let y₁ := y.loadNoted
  let y₂ := y.withNotes y.loadHolds { y₁.load with slackDue := false }
  have due := weighs.due flying
  have run : loadMonitorAt here y = slackTimeoutWork (loadCheck y) := if_neg inside
  rw [run]
  by_cases above : s.params.tMax < s.tens.latched
  · have raised : y.overloads := ⟨by rw [flying]; rfl, by rw [flying]; decide, by rw [params, tens]; exact above⟩
    have stops : loadCheck y = y₁.begins .overload 0#24 :=
      (loadCheck_overload raised).trans (takeCause_begins (y := y₁) rfl rfl flying hr)
    rw [stops, loadCause_over above]
    by_cases ends : s.slackEnds
    · have taken : slackTimeoutWork (y₁.begins .overload 0#24) =
          takeCause .slackTimeout y.own (y₂.begins .overload 0#24) := if_pos (due.mpr ends)
      refine ⟨{ y₁.load with slackDue := false }, addLater 0#24 .slackTimeout, taken.trans ?_, fun _ _ => rfl,
        fun h => absurd ⟨above, ends⟩ h⟩
      exact takeCause_controlled_stopping (s := y₂.begins .overload 0#24) _ rfl rfl rfl
    · refine ⟨y₁.load, 0#24, ?_, fun _ h => absurd h ends, fun _ => rfl⟩
      exact slackTimeoutWork_notDue (Bool.eq_false_iff.mpr fun h => ends (due.mp h))
  · have ends : s.slackEnds := found.resolve_left above
    rw [loadCheck_silent fun h => above (by rw [← params, ← tens]; exact h.2.2), loadCause_light above]
    have taken : slackTimeoutWork y₁ = takeCause .slackTimeout y.own y₂ := if_pos (due.mpr ends)
    exact ⟨{ y₁.load with slackDue := false }, 0#24, taken.trans (takeCause_begins (y := y₂) rfl rfl flying hr),
      fun h => absurd h above, fun _ => rfl⟩

/-! ### The Creep Watch in a flight's sample (R133, R134) -/

/-- The Creep Watch finds nothing: the station moves, or its reference is good. -/
def State.unwatched (s : State) : Prop := ¬ ((s.seq.state = .ready ∨ s.seq.state = .stopped) ∧ s.slipped)

theorem State.unwatched.moving (ready : s.seq.state ≠ .ready) (stopped : s.seq.state ≠ .stopped) : s.unwatched :=
  fun h => h.1.elim ready stopped

/-- A reference that this sample has armed is the length that it measures. -/
theorem State.unwatched.armed (h : s.creep.reference = s.len.measured) : s.unwatched := by
  rintro ⟨-, -, far⟩
  rw [h, Int.sub_self] at far
  exact absurd far (Nat.not_lt_zero _)

theorem State.unwatched.reported (h : s.unwatched) (r : s.reportedAs t) : t.unwatched := by
  obtain ⟨only, -⟩ := r
  unfold State.unwatched State.slipped at *
  rw [only.seq, only.creep, only.len, only.params]
  exact h

theorem State.unwatched.checks {here : CheckPoint} (h : s.unwatched) (out : here ≠ load) :
    checksAt here load creep s = s := checksAt_none out fun _ => creepCheck_silent h

theorem State.unwatched.checksLoad {here : CheckPoint} (h : (loadMonitorAt here s).unwatched) :
    checksAt here here creep s = loadMonitorAt here s := by
  rw [checksAt_eq, if_pos rfl]
  split
  · exact creepCheck_silent h
  · rfl

/-- A sample in which the Load Monitor has done its work before the test for completion, and nothing slips. -/
theorem finish_unwatched (early : earlyPlace load) (h : y.unwatched) (moving : y.seq.state ≠ .flying) :
    finish load creep y = composeReport y := by
  have other (here : CheckPoint) (h : ¬ earlyPlace here) : here ≠ load := fun k => h (k ▸ early)
  unfold finish
  rw [h.checks (other _ (by decide)), completionTest_other fun k => moving k.1, h.checks (other _ (by decide)),
    (h.reported (composeReport_reported y)).checks (other _ (by decide))]

theorem finish_beforeCompletion (h : (loadMonitorAt .beforeCompletion y).unwatched)
    (moving : (loadMonitorAt .beforeCompletion y).seq.state ≠ .flying) :
    finish .beforeCompletion creep y = composeReport (loadMonitorAt .beforeCompletion y) := by
  unfold finish
  rw [h.checksLoad, completionTest_other fun k => moving k.1, h.checks (by decide),
    (h.reported (composeReport_reported _)).checks (by decide)]

theorem finish_beforeReport (unwatched : y.unwatched) (h : (loadMonitorAt .beforeReport (completionTest y)).unwatched) :
    finish .beforeReport creep y = composeReport (loadMonitorAt .beforeReport (completionTest y)) := by
  unfold finish
  rw [unwatched.checks (by decide), h.checksLoad, (h.reported (composeReport_reported _)).checks (by decide)]

/-! ### The own REPORT shows the fault (R62) -/

/-- The record begins with a cause of the own station, and the own row shows it and the stop. -/
def State.shows (s : State) (c : FaultCode) (t : State) : Prop :=
  t.stop.first = some (c, s.own) ∧
    ∀ r ∈ t.peers.rows, r.station = s.own → ∃ p, r.report = some p ∧
      p.firstFault = BitVec.ofNat 8 c.code ∧ (p.stateCode = 5#8 ∨ p.stateCode = 6#8)

theorem composeReport_shows {c : FaultCode} (own : y.own = s.own) (first : y.stop.first = some (c, s.own))
    (state : y.seq.state = .stopping ∨ y.seq.state = .stopped) : s.shows c (composeReport y) := by
  have operating : y.seq.state.operating = true := by rcases state with h | h <;> rw [h] <;> rfl
  rw [composeReport_operating operating]
  refine ⟨first, fun r row at_ => ?_⟩
  obtain ⟨r', -, rfl⟩ := List.mem_map.mp row
  have stored : storeInRow y.own y.ownReport r' = { r' with age := 0, report := some y.ownReport } := by
    refine if_pos (Decidable.byContradiction fun out => ?_)
    rw [storeInRow, if_neg out] at at_
    exact out (at_.trans own.symm)
  rw [stored]
  refine ⟨_, rfl, ?_, ?_⟩
  · unfold State.ownReport; rw [first]
  · unfold State.ownReport
    rcases state with h | h <;> rw [h]
    · exact .inl rfl
    · exact .inr rfl

theorem State.shows.same {c : FaultCode} (h : s.shows c y) (peers : t.peers = y.peers)
    (first : t.stop.first = y.stop.first) : s.shows c t := by
  unfold State.shows
  rw [peers, first]; exact h

/-! ### The path stop in the sample that begins it (R98, R142) -/

theorem settleRequest_arms (stopping : s.seq.state = .stopping) (settling : s.stop.phase = .settling)
    (released : s.loop.brake = .release) (sample : s.loop.brakeSample = .set) :
    (settleRequest s).creep.reference = s.len.measured := by
  unfold settleRequest
  rw [released, if_neg (by decide), commandBrake_set_change (by rw [released]; decide) (by rw [stopping]; rfl),
    if_pos sample, brakeSetConfirmed_settling (s := s.setOn .matched) stopping settling]
  rfl

theorem loopWork_pathStop (e : Bool) (stopping : y.seq.state = .stopping) (released : y.loop.brake = .release)
    (near : (y.nextError true).natAbs ≤ y.params.tripTol) :
    let u := loopWork e y
    u.gov = (y.computed true false).gov ∧ (∃ p, u.stop = { y.stop with phase := p }) ∧
      (u.seq = y.seq ∨ u.seq = { y.seq with state := .stopped } ∧ y.loop.brakeSample = .set) ∧
      y.changesOnly [.seq, .gov, .loop, .creep, .stop] u ∧ u.unwatched := by
  let c := y.computed true false
  have changes := computed_only y true false
  have cstate : c.seq.state = .stopping := by rw [changes.seq]; exact stopping
  obtain ⟨brake, sample, -⟩ := computed_brake y true false
  rw [loopWork_stopping e stopping, cycleComputation_follows near]
  by_cases settles : c.settles
  · let d := c.withStop { c.stop with phase := .settling }
    have only := settleRequest_only d
    have all : y.changesOnly [.seq, .gov, .loop, .creep, .stop] (settleRequest d) :=
      (changes.next (withStop_only c _) (l := [.gov, .loop, .stop])).next only
    obtain ⟨-, -, done, waits⟩ := settleRequest_ends (s := d) cstate rfl
    have released : d.loop.brake = .release := brake.trans released
    rw [settleTest_settles settles]
    have stop : (settleRequest d).stop = { y.stop with phase := .settling } := by
      rw [only.stop]
      show { c.stop with phase := .settling } = _
      rw [changes.stop]
    refine ⟨only.gov, ⟨_, stop⟩, ?_⟩
    by_cases sure : d.loop.confirms
    · have set : d.loop.brakeSample = .set := (sure.resolve_left fun k => by cases released.symm.trans k.1).2
      refine ⟨.inr ⟨?_, sample.symm.trans set⟩, all, .armed ?_⟩
      · rw [(done sure).1, show d.seq = y.seq from changes.seq]
      · exact (settleRequest_arms (s := d) cstate rfl released set).trans (congrArg LengthReader.measured only.len).symm
    · obtain ⟨seq, -⟩ := waits sure
      refine ⟨.inl (seq.trans changes.seq), all, .moving ?_ ?_⟩
      all_goals rw [seq, show d.seq.state = _ from cstate]; decide
  · rw [settleTest_other settles]
    exact ⟨rfl, ⟨_, changes.stop⟩, .inl changes.seq, changes.mono, .moving (by rw [cstate]; decide) (by rw [cstate]; decide)⟩

/-! ### A flight stopped by the Load Monitor -/

/-- The Load Monitor of `s` has stopped the flight, whose progress is `q`, before the REPORT. -/
def State.stopsFlight (s : State) (q : Nat) (u : State) : Prop :=
  u.gov.q = q ∧ u.seq.complete = s.seq.complete ∧ u.stop.first = some (s.loadCause, s.own) ∧
    s.laterFound u.stop.later ∧ u.stop.category = .controlled ∧ u.link = s.stopRequested s.loadCause ∧
    u.own = s.own ∧ (u.seq.state = .stopping ∨ u.seq.state = .stopped)

theorem begins_stopsFlight {later : BitVec 24} (link : v.link = s.link) (params : v.params = s.params)
    (complete : v.seq.complete = s.seq.complete) (found : s.laterFound later) :
    s.stopsFlight v.gov.q (v.begins s.loadCause later) := by
  have own : v.own = s.own := congrArg Params.station params
  have group : v.ownGroup = s.ownGroup := by unfold State.ownGroup State.groupOf State.own; rw [params]
  refine ⟨rfl, complete, congrArg (fun n => some (s.loadCause, n)) own, found, rfl, ?_, own, .inl rfl⟩
  show v.stopRequested _ = _
  unfold State.stopRequested
  rw [link, own, group]

/-- What the statement says of a flight that the Load Monitor has stopped. -/
theorem State.stopsFlight.reports {q : Nat} (h : s.stopsFlight q y) :
    let t := beginAttempt (composeReport y)
    t.gov.q = q ∧ t.seq.complete = s.seq.complete ∧ s.shows s.loadCause t ∧ s.laterFound t.stop.later ∧
      t.stop.category = .controlled ∧ (s.link.line = .busy →
        t.link.stopSlot = s.link.stopSlot.request (stopBody s.ownGroup s.loadCause.code s.own)) ∧
      t.seq = y.seq := by
  obtain ⟨progress, complete, first, later, category, link, own, state⟩ := h
  have r := (composeReport_reported y).trans (beginAttempt_reported _)
  obtain ⟨only, -, line⟩ := id r
  have final := beginAttempt_only (composeReport y)
  have shown : s.shows s.loadCause (beginAttempt (composeReport y)) :=
    (composeReport_shows own first state).same final.peers (congrArg StopController.first final.stop)
  intro t
  refine ⟨?_, ?_, shown, ?_, ?_, fun busy => ?_, only.seq⟩
  · rw [only.gov]; exact progress
  · rw [only.seq]; exact complete
  · rw [only.stop]; exact later
  · rw [only.stop]; exact category
  · rw [link] at line
    exact (line busy).2

/-! ### A flight that trips (R94, R145) -/

/-- A station stopped on its brake by an immediate cause. -/
def State.tripped (y : State) : Prop :=
  y.seq.state = .stopped ∧ y.stop.category = .immediate ∧ y.stop.first.isSome = true

/-- What the rest of a sample keeps of such a station. -/
def State.staysTripped (y z : State) : Prop :=
  z.seq = y.seq ∧ z.stop.first = y.stop.first ∧ z.stop.category = y.stop.category ∧
    (∀ c, inLater y.stop.later c = true → inLater z.stop.later c = true) ∧ z.own = y.own ∧
    (y.link.line = .busy → z.link.line = .busy ∧ z.link.stopSlot = y.link.stopSlot)

theorem State.staysTripped.refl (y : State) : y.staysTripped y := ⟨rfl, rfl, rfl, fun _ => id, rfl, fun busy => ⟨busy, rfl⟩⟩

theorem State.staysTripped.trans (h : y.staysTripped z) (h' : z.staysTripped t) : y.staysTripped t := by
  obtain ⟨seq, first, category, later, own, line⟩ := h
  obtain ⟨seq', first', category', later', own', line'⟩ := h'
  refine ⟨seq'.trans seq, first'.trans first, category'.trans category, fun c => later' c ∘ later c, own'.trans own,
    fun busy => ?_⟩
  obtain ⟨busy', slot⟩ := line busy
  exact ⟨(line' busy').1, (line' busy').2.trans slot⟩

theorem State.tripped.stays (h : y.tripped) (k : y.staysTripped z) : z.tripped := by
  obtain ⟨seq, first, category, -⟩ := k
  unfold State.tripped
  rw [seq, category, first]; exact h

theorem State.staysTripped.reported (r : y.reportedAs z) : y.staysTripped z := by
  obtain ⟨only, -, line⟩ := r
  exact ⟨only.seq, by rw [only.stop], by rw [only.stop], by rw [only.stop]; exact fun _ => id,
    congrArg Params.station only.params, line⟩

/-- Every further cause only joins the later-fault set. -/
theorem State.tripped.cause (h : y.tripped) (c : FaultCode) (src : Nat) :
    takeCause c src y = y.withStop { y.stop with later := addLater y.stop.later c } := by
  obtain ⟨stopped, immediate, some⟩ := h
  obtain ⟨first, hfirst⟩ := Option.isSome_iff_exists.mp some
  have inForce : changesCategory c.category y = false := changesCategory_inForce (.inr ⟨stopped, .inr (.inl immediate)⟩)
  rw [takeCause_noFrame (by rw [stopped]; rfl) inForce, intake_inForce stopped (.inr (.inl immediate)), record_adds hfirst]

theorem State.tripped.watched (h : y.tripped) : y.staysTripped (creepCheck y) := by
  unfold creepCheck
  split
  · rw [h.cause]
    exact ⟨rfl, rfl, rfl, fun _ => inLater_mono _, rfl, fun busy => ⟨busy, rfl⟩⟩
  · exact .refl y

theorem State.tripped.checks {here : CheckPoint} (h : y.tripped) : y.staysTripped (checksAt here load creep y) := by
  have monitor : y.staysTripped (if here = load then loadMonitorAt here y else y) := by
    split
    · rw [loadMonitorAt_stopped here h.1]
      exact ⟨rfl, rfl, rfl, fun _ => id, rfl, fun busy => ⟨busy, rfl⟩⟩
    · exact .refl y
  rw [checksAt_eq]
  split
  · exact monitor.trans (h.stays monitor).watched
  · exact monitor

theorem State.tripped.completion (h : y.tripped) : completionTest y = y :=
  completionTest_other fun k => by cases h.1.symm.trans k.1

theorem State.tripped.finish {c : FaultCode} (h : y.tripped) (inside : load ≠ .afterReport) :
    y.staysTripped (beginAttempt (finish load creep y)) ∧
      (y.own = s.own → y.stop.first = some (c, s.own) → s.shows c (beginAttempt (Machine.finish load creep y))) := by
  have h₁ := h.checks (here := .beforeCompletion) (load := load) (creep := creep)
  have h₂ := (h.stays h₁).checks (here := .beforeReport) (load := load) (creep := creep)
  have before := h₁.trans h₂
  let u := checksAt .beforeReport load creep (checksAt .beforeCompletion load creep y)
  have run : Machine.finish load creep y = checksAt .afterReport load creep (composeReport u) := by
    unfold Machine.finish
    rw [(h.stays h₁).completion]
  have report := State.staysTripped.reported (composeReport_reported u)
  have after := ((h.stays before).stays report).checks (here := .afterReport) (load := load) (creep := creep)
  have last := State.staysTripped.reported (beginAttempt_reported (checksAt .afterReport load creep (composeReport u)))
  rw [run]
  refine ⟨((before.trans report).trans after).trans last, fun own first => ?_⟩
  obtain ⟨-, sameFirst, -, -, sameOwn, -⟩ := id before
  have shown : s.shows c (composeReport u) :=
    composeReport_shows (sameOwn.trans own) (sameFirst.trans first) (.inr (h.stays before).1)
  have peers : (checksAt .afterReport load creep (composeReport u)).peers = (composeReport u).peers := by
    rw [checksAt_eq, if_neg (Ne.symm inside)]
    split
    · exact (creepCheck_only _).peers
    · rfl
  have final := beginAttempt_only (checksAt .afterReport load creep (composeReport u))
  exact shown.same (final.peers.trans peers) ((congrArg StopController.first final.stop).trans after.2.1)

/-! ### Where the check stands -/

/-- Up to the computation a station that moves meets the Load Monitor's check alone. -/
theorem untilLoop_checked (moving : s.unwatched) (primed : s.seq.state ≠ .primed)
    (checked : earlyPlace load → (loadMonitorAt load s).unwatched ∧ (loadMonitorAt load s).seq.state ≠ .primed) :
    (untilLoop load creep s = if earlyPlace load then loadMonitorAt load s else s) ∧
      entersFlight load creep s = false := by
  have unprimed {y : State} (h : y.seq.state ≠ .primed) : (y.seq.state == .primed) = false := beq_eq_false_iff_ne.mpr h
  by_cases bS : load = .beforeSequencer
  · subst bS
    obtain ⟨calm, other⟩ := checked (.inl rfl)
    unfold untilLoop entersFlight
    rw [calm.checksLoad, primedWork_other other, calm.checks (by decide), unprimed other, if_pos (.inl rfl)]
    exact ⟨rfl, rfl⟩
  · unfold untilLoop entersFlight
    rw [moving.checks (Ne.symm bS), primedWork_other primed, unprimed primed]
    refine ⟨?_, rfl⟩
    by_cases bC : load = .beforeComputation
    · subst bC
      rw [(checked (.inr rfl)).1.checksLoad, if_pos (.inr rfl)]
    · rw [moving.checks (Ne.symm bC), if_neg (not_or.mpr ⟨bS, bC⟩)]

/-- A flight in whose sample the Load Monitor finds a cause. -/
structure Found (s : State) (load : CheckPoint) : Prop where
  flying : s.seq.state = .flying
  empty : s.recordEmpty
  released : s.loop.brake = .release
  drive : s.loop.drive = true
  found : s.params.tMax < s.tens.latched ∨ s.slackEnds
  inside : load ≠ .afterReport

/-- The Load Monitor's check before the computation begins the stop that the computation is made in. -/
theorem Found.early (h : Found s load) (early : earlyPlace load) : ∃ n later, s.laterFound later ∧
    ∀ creep, cycleWork load creep s =
      finish load creep (loopWork false ((s.withNotes s.loadHolds n).begins s.loadCause later)) := by
  obtain ⟨n, later, begins, found⟩ := monitor_begins load h.inside (.refl s) h.empty h.flying h.found
  refine ⟨n, later, found, fun creep => ?_⟩
  obtain ⟨until_, entering⟩ := untilLoop_checked (load := load) (creep := creep)
    (State.unwatched.moving (s := s) (by rw [h.flying]; decide) (by rw [h.flying]; decide)) (by rw [h.flying]; decide)
    fun _ => by rw [begins]; exact ⟨.moving (nomatch ·) (nomatch ·), (nomatch ·)⟩
  rw [cycleWork_stages, until_, entering, if_pos early, begins]

/-- The check after the computation finds the flight as the computation leaves it. -/
theorem Found.late (h : Found s load) (late : ¬ earlyPlace load) (creep : CheckPoint) :
    cycleWork load creep s = finish load creep (cycleComputation false false s) := by
  obtain ⟨until_, entering⟩ := untilLoop_checked (load := load) (creep := creep)
    (State.unwatched.moving (s := s) (by rw [h.flying]; decide) (by rw [h.flying]; decide)) (by rw [h.flying]; decide)
    fun k => absurd k late
  rw [cycleWork_stages, until_, entering, if_neg late, loopWork_flying false h.flying]

theorem Found.earlyStops (h : Found s load) (early : earlyPlace load)
    (near : (s.nextError true).natAbs ≤ s.params.tripTol) : ∃ u, cycleWork load creep s = composeReport u ∧
      s.stopsFlight (s.newProgress true) u ∧
      (u.seq.state = .stopping ∨ (u.seq.state = .stopped ∧ s.loop.brakeSample = .set)) := by
  obtain ⟨n, later, found, work⟩ := h.early early
  let v := s.withNotes s.loadHolds n
  let m := v.begins s.loadCause later
  obtain ⟨gov, ⟨p, stop⟩, seq, only, unwatched⟩ := loopWork_pathStop (y := m) false rfl h.released near
  have state : (loopWork false m).seq.state = .stopping ∨
      ((loopWork false m).seq.state = .stopped ∧ s.loop.brakeSample = .set) :=
    seq.imp (congrArg Sequencer.state) fun k => ⟨congrArg Sequencer.state k.1, k.2⟩
  have moving : (loopWork false m).seq.state ≠ .flying := fun k => by
    rcases state with n | ⟨n, -⟩ <;> cases n.symm.trans k
  have complete : (loopWork false m).seq.complete = s.seq.complete := by
    rcases seq with k | ⟨k, -⟩ <;> rw [k] <;> rfl
  obtain ⟨-, -, first, later', category, link, own, -⟩ :=
    begins_stopsFlight (s := s) (v := v) (later := later) rfl rfl rfl found
  refine ⟨_, (work creep).trans (finish_unwatched early unwatched moving), ⟨?_, complete, ?_, ?_, ?_, ?_, ?_, ?_⟩, state⟩
  · rw [gov, computed_gov]; rfl
  · rw [stop]; exact first
  · rw [stop]; exact later'
  · rw [stop]; exact category
  · rw [only.link]; exact link
  · exact (congrArg Params.station only.params).trans own
  · exact state.imp_right And.left

theorem Found.earlyTrips (h : Found s load) (early : earlyPlace load)
    (trip : s.params.tripTol < (s.nextError true).natAbs) :
    let t := beginAttempt (cycleWork load creep s)
    s.shows s.loadCause t ∧ t.seq = { s.seq with state := .stopped } ∧ t.stop.category = .immediate ∧
      inLater t.stop.later .followTrip = true ∧ (s.link.line = .busy → t.link.stopSlot =
        (s.link.stopSlot.request (stopBody s.ownGroup s.loadCause.code s.own)).request (stopBody s.ownGroup 7 s.own)) := by
  obtain ⟨n, later, -, work⟩ := h.early early
  let m := (s.withNotes s.loadHolds n).begins s.loadCause later
  let c := m.computed true false
  let y := takeCause .followTrip s.own c
  have changes : m.changesOnly [.gov, .loop] c := computed_only m true false
  have stopping : c.seq.state = .stopping := congrArg Sequencer.state changes.seq
  have opened : c.stop.first.isSome = true := by rw [changes.stop]; rfl
  obtain ⟨first, laterSet, -, immediate, -⟩ := takeCause_stopping (c := .followTrip) (src := s.own) stopping opened
  obtain ⟨⟨frame, -⟩, category, -, seq, -⟩ := immediate rfl
  have tripped : y.tripped := ⟨congrArg Sequencer.state seq, category, by rw [show y.stop.first = _ from first]; exact opened⟩
  have run : loopWork false m = y := by
    rw [loopWork_stopping false rfl, cycleComputation_trips (s := m) trip]
    exact settleTest_other fun k => by cases tripped.1.symm.trans k.1
  have own : y.own = s.own :=
    (congrArg Params.station (takeCause_only c .followTrip s.own).params).trans (congrArg Params.station changes.params)
  obtain ⟨⟨tseq, -, tcategory, tlater, -, tline⟩, shows⟩ :=
    tripped.finish (s := s) (creep := creep) (c := s.loadCause) h.inside
  intro t
  rw [show t = beginAttempt (finish load creep y) by rw [← run]; exact congrArg beginAttempt (work creep)]
  refine ⟨shows own ?_, ?_, tcategory.trans category, tlater _ ?_, fun busy => ?_⟩
  · rw [show y.stop.first = _ from first, changes.stop]; rfl
  · rw [tseq, show y.seq = _ from seq, changes.seq]; rfl
  · rw [show y.stop.later = _ from laterSet]; exact inLater_addLater _ _
  · have link : y.link = m.stopRequested .followTrip := by
      rw [show y.link = _ from frame rfl]
      unfold State.stopRequested State.ownGroup State.groupOf State.own
      rw [changes.link, changes.params]
    rw [link] at tline
    exact (tline busy).2

theorem Found.weighs (h : Found s load) (b e : Bool) : s.weighsAs (s.computed b e) ∧ (s.computed b e).recordEmpty := by
  have changes := computed_only s b e
  refine ⟨(State.weighsAs.refl s).of changes.tens changes.params changes.peers changes.load (computed_holds s b e), ?_⟩
  unfold State.recordEmpty
  rw [changes.stop]; exact h.empty

theorem Found.computedStops (h : Found s load) {here : CheckPoint} (inside : here ≠ .afterReport) :
    let m := loadMonitorAt here (s.computed false false)
    s.stopsFlight (s.newProgress false) m ∧ m.seq.state = .stopping := by
  have changes := computed_only s false false
  obtain ⟨weighs, empty⟩ := h.weighs false false
  obtain ⟨n, later, begins, found⟩ := monitor_begins here inside weighs empty
    ((congrArg Sequencer.state changes.seq).trans h.flying) h.found
  have stops := begins_stopsFlight (s := s) (v := (s.computed false false).withNotes (s.computed false false).loadHolds n)
    changes.link changes.params (congrArg Sequencer.complete changes.seq) found
  have progress : (s.computed false false).gov.q = s.newProgress false := by rw [computed_gov]
  intro m
  rw [show m = _ from begins]
  refine ⟨?_, rfl⟩
  rw [← progress]
  exact stops

theorem Found.beforeCompletion (h : Found s .beforeCompletion) (near : (s.nextError false).natAbs ≤ s.params.tripTol) :
    ∃ u, cycleWork .beforeCompletion creep s = composeReport u ∧ s.stopsFlight (s.newProgress false) u ∧
      u.seq.state = .stopping := by
  obtain ⟨stops, state⟩ := h.computedStops (here := .beforeCompletion) (by decide)
  refine ⟨_, ?_, stops, state⟩
  rw [h.late (by decide), cycleComputation_follows near]
  exact finish_beforeCompletion (.moving (by rw [state]; decide) (by rw [state]; decide)) (by rw [state]; decide)

theorem computed_unwatched (h : s.seq.state = .flying) (b e : Bool) : (s.computed b e).unwatched := by
  have changes := computed_only s b e
  exact .moving (by rw [changes.seq, h]; decide) (by rw [changes.seq, h]; decide)

theorem Found.beforeReport (h : Found s .beforeReport) (near : (s.nextError false).natAbs ≤ s.params.tripTol)
    (short : s.flownTo ≠ s.cueEnd) : ∃ u, cycleWork .beforeReport creep s = composeReport u ∧
      s.stopsFlight (s.newProgress false) u ∧ u.seq.state = .stopping := by
  obtain ⟨stops, state⟩ := h.computedStops (here := .beforeReport) (by decide)
  have same : completionTest (s.computed false false) = s.computed false false := completionTest_goesOn false short
  refine ⟨_, ?_, stops, state⟩
  rw [h.late (by decide), cycleComputation_follows near, finish_beforeReport (computed_unwatched h.flying _ _), same]
  rw [same]
  exact .moving (by rw [state]; decide) (by rw [state]; decide)

theorem Found.lateTrips (h : Found s load) (late : ¬ earlyPlace load)
    (trip : s.params.tripTol < (s.nextError false).natAbs) :
    let t := beginAttempt (cycleWork load creep s)
    t.seq = { s.seq with state := .stopped } ∧ t.stop.first = some (.followTrip, s.own) ∧
      t.stop.category = .immediate := by
  let c := s.computed false false
  have changes := computed_only s false false
  obtain ⟨-, empty⟩ := h.weighs false false
  obtain ⟨seq, first, -, category, -⟩ := takeCause_followTrip (s := c) empty
    ((congrArg Sequencer.state changes.seq).trans h.flying) s.own
  have tripped : (takeCause .followTrip s.own c).tripped := ⟨congrArg Sequencer.state seq, category, by rw [first]; rfl⟩
  obtain ⟨⟨tseq, tfirst, tcategory, -⟩, -⟩ := tripped.finish (s := s) (creep := creep) (c := .followTrip) h.inside
  intro t
  rw [show t = beginAttempt (finish load creep (takeCause .followTrip s.own c)) by
    rw [← cycleComputation_trips trip]; exact congrArg beginAttempt (h.late late creep)]
  exact ⟨tseq.trans (seq.trans (by rw [show c.seq = _ from changes.seq])), tfirst.trans first, tcategory.trans category⟩

/-! ### A flight that has completed its cue (R19, R129) -/

theorem enterParking_arms (released : s.loop.brake = .release) (sample : s.loop.brakeSample = .set) :
    (enterParking s).creep.reference = s.len.measured := by
  rw [enterParking_released (by rw [released]; decide), if_pos sample]
  rfl

/-- The Load Monitor's check of a station that rests, in the statement's words. -/
theorem loadCheck_endsIn (hr : s.recordEmpty) (weighs : s.weighsAs y) (stop : y.stop = s.stop) (link : y.link = s.link)
    (state : y.seq.state = .ready ∨ y.seq.state.inFlight = true) :
    s.endsIn y.seq.state y.seq (loadCheck y) ∧ y.keepsLine (loadCheck y) ∧
      (s.link.line = .busy → (loadCheck y).link.line = .busy) := by
  by_cases above : s.params.tMax < s.tens.latched
  · exact overload_endsIn hr weighs stop (fun busy => by rw [link]; exact ⟨busy, rfl⟩) state above
  · obtain ⟨tens, params, -⟩ := id weighs
    rw [loadCheck_silent fun h => above (by rw [← params, ← tens]; exact h.2.2)]
    refine ⟨⟨weighs.written, fun _ => ⟨rfl, stop⟩, fun h => absurd h above⟩, ⟨rfl, rfl, rfl⟩, fun busy => ?_⟩
    exact (congrArg LinkPort.line link).trans busy

theorem Found.completes (h : Found s .beforeReport) (near : (s.nextError false).natAbs ≤ s.params.tripTol)
    (done : s.flownTo = s.cueEnd) :
    let left : Sequencer := { s.seq with
      complete := true
      state := if s.loop.brakeSample = .set then .ready else .parking }
    let t := beginAttempt (cycleWork .beforeReport creep s)
    s.endsIn left.state left t ∧ (s.params.tMax < s.tens.latched → s.shows s.loadCause t) := by
  intro left t
  have flies : Flies s .beforeReport .flying s := {
    empty := h.empty
    flying := h.flying
    stop := rfl
    link := rfl
    params := rfl
    tens := rfl
    brake := h.released
    drive := h.drive
    early := fun k => absurd k (by decide)
    late := fun _ => .refl s }
  let c := s.computed false false
  let z := completionTest c
  let u := loadCheck z
  have changes : s.changesOnly [.gov, .loop] c := computed_only s false false
  have only : c.changesOnly [.seq, .gov, .loop, .creep] z := completionTest_only c
  obtain ⟨brake, sample, -⟩ := computed_brake s false false
  obtain ⟨seq, -⟩ := flies.completes false done
  obtain ⟨weighs, -⟩ := h.weighs false false
  have state : z.seq.state = .ready ∨ z.seq.state.inFlight = true :=
    completionTest_running (.inr (by rw [show c.seq = _ from changes.seq, h.flying]; rfl))
  have still : z.seq.state ≠ .flying := by
    rw [show z.seq = _ from seq]
    show (if _ then StationState.ready else _) ≠ _
    split <;> decide
  obtain ⟨ends, ⟨-, creep', -⟩, line⟩ := loadCheck_endsIn h.empty weighs.completion (only.stop.trans changes.stop)
    (only.link.trans changes.link) state
  have unwatched : u.unwatched := by
    cases set : s.loop.brakeSample with
    | set =>
      have complete : c.seq.state = .flying ∧ c.gov.achieved = c.cueEnd := by
        rw [changes.seq, cueEnd_computed, computed_gov]; exact ⟨h.flying, done⟩
      have armed : z.creep.reference = z.len.measured := by
        rw [show z = _ from completionTest_completes complete, (enterParking_only _).len]
        exact enterParking_arms (brake.trans h.released) (sample.trans set)
      refine .armed ?_
      rw [show u.creep = _ from creep', show u.len = z.len from (loadCheck_only z).len]
      exact armed
    | released =>
      have parking : z.seq.state = .parking := by rw [show z.seq = _ from seq, set]; rfl
      have moving : u.seq.state = .parking ∨ u.seq.state = .stopping := by
        obtain ⟨-, calm, stops⟩ := ends
        by_cases above : s.params.tMax < s.tens.latched
        · right
          rw [(stops above).1, parking]; rfl
        · left
          rw [(calm (Nat.not_lt.mp above)).1]; exact parking
      exact .moving (by rcases moving with k | k <;> rw [k] <;> decide) (by rcases moving with k | k <;> rw [k] <;> decide)
  have checked : loadMonitorAt .beforeReport z = u := loadMonitorAt_notFlying _ still
  have ended : t = beginAttempt (composeReport u) := by
    show beginAttempt (cycleWork .beforeReport creep s) = _
    rw [h.late (by decide), cycleComputation_follows near, finish_beforeReport (computed_unwatched h.flying _ _),
      show completionTest (s.computed false false) = z from rfl, checked]
    rw [show completionTest (s.computed false false) = z from rfl, checked]
    exact unwatched
  rw [show z.seq = left from seq] at ends
  rw [ended]
  refine ⟨ends.reported ((composeReport_reported u).trans (beginAttempt_reported _)) line, fun above => ?_⟩
  obtain ⟨-, -, stops⟩ := ends
  obtain ⟨useq, first, -⟩ := stops above
  have own : u.own = s.own :=
    congrArg Params.station ((loadCheck_only z).params.trans (only.params.trans changes.params))
  have stopped : u.seq.state = .stopping ∨ u.seq.state = .stopped := by
    rw [show u.seq = _ from useq]
    show (if _ then StationState.stopped else StationState.stopping) = _ ∨
      (if _ then StationState.stopped else StationState.stopping) = _
    split
    · exact .inr rfl
    · exact .inl rfl
  rw [loadCause_over above]
  have final := beginAttempt_only (composeReport u)
  exact (composeReport_shows own first stopped).same final.peers (congrArg StopController.first final.stop)

/-- Settles O15. -/
theorem loadMonitorStopsWhereItFinds : Obligations.LoadMonitorStopsWhereItFinds := by
  unfold Obligations.LoadMonitorStopsWhereItFinds
  intro w load creep l s quiet reading flying hr hfit leaves finds overloaded cause early error shown stopped
  obtain ⟨x, length, run⟩ := exec_sample load creep quiet reading (by rw [flying]; rfl) leaves
  let s₀ := s.withLen x
  have found (inside : load ≠ .afterReport) : Found s₀ load := {
    flying := flying
    empty := hr
    released := hfit.released (.inr flying)
    drive := by
      show s.loop.drive = true
      rw [hfit.drive, State.driveWanted, flying]
    found := finds
    inside := inside }
  have inside (h : early) : load ≠ .afterReport := by rcases h with rfl | rfl <;> decide
  have err (b : Bool) : (s₀.nextError b).natAbs = error b := by
    show ((s.targetAt (s.nextSegment b) (s.newProgress b) : Int) - (x.measured : Int)).natAbs = _
    rw [length]
  have reports {b : Bool} {u : State} (stops : s₀.stopsFlight (s₀.newProgress b) u)
      (work : cycleWork load creep s₀ = composeReport u) : stopped b (beginAttempt (cycleWork load creep s₀)) ∧
        (beginAttempt (cycleWork load creep s₀)).seq = u.seq := by
    rw [work]
    obtain ⟨progress, complete, shows, ⟨both, one⟩, category, slot, seq⟩ := stops.reports
    exact ⟨⟨progress, complete, shows, both, one, category, slot⟩, seq⟩
  refine ⟨_, run, fun h near => ?_, fun h trip => ?_, fun h near => ?_, fun h near => ?_, fun h trip => ?_⟩
  · obtain ⟨u, work, stops, state⟩ := (found (inside h)).earlyStops (creep := creep) h (by rw [err]; exact near)
    obtain ⟨said, seq⟩ := reports stops work
    exact ⟨said, by rw [seq]; exact state⟩
  · exact (found (inside h)).earlyTrips h (by rw [err]; exact trip)
  · subst h
    obtain ⟨u, work, stops, state⟩ := (found (by decide)).beforeCompletion (creep := creep) (by rw [err]; exact near)
    obtain ⟨said, seq⟩ := reports stops work
    exact ⟨said, by rw [seq]; exact state⟩
  · subst h
    intro achieved left
    have near : (s₀.nextError false).natAbs ≤ s₀.params.tripTol := by rw [err]; exact near
    have flown : s₀.flownTo = achieved := by unfold State.flownTo; rw [err]; rfl
    refine ⟨fun short => ?_, fun done => ?_⟩
    · obtain ⟨u, work, stops, state⟩ := (found (by decide)).beforeReport (creep := creep) near (by rw [flown]; exact short)
      obtain ⟨said, seq⟩ := reports stops work
      exact ⟨said, by rw [seq]; exact state⟩
    · exact (found (by decide)).completes near (by rw [flown]; exact done)
  · have late : ¬ earlyPlace load := by rcases h with rfl | rfl <;> decide
    exact (found (by rcases h with rfl | rfl <;> decide)).lateTrips late (by rw [err]; exact trip)

end Sys2Proof.Machine
end

section
/-!
SUPPORT. Two runs of one sample that differ in the OVERLOAD limit and in the Creep Watch alone, where the checks that
read them come after the own REPORT (chapters 4 and 8).
-/

namespace Sys2Proof.Machine

set_option Elab.async false

variable {s t y y' z : State} {load creep : CheckPoint}

/-! ### The two runs -/

/-- The state with another OVERLOAD limit and another Creep Watch. -/
def State.withWatch (limit : Nat) (watch : CreepWatch) (s : State) : State :=
  { s with
    params := { s.params with tMax := limit }
    creep := watch }

/-- A limit and a Creep Watch that a run may have instead: the same where the check that reads them comes before the
REPORT, and otherwise such that this check finds nothing. -/
def State.mayHave (s : State) (load creep : CheckPoint) (limit : Nat) (watch : CreepWatch) : Prop :=
  (load ≠ .afterReport → limit = s.params.tMax) ∧ (load = .afterReport → s.tens.latched ≤ limit) ∧
    (creep ≠ .afterReport → watch = s.creep) ∧
    (creep = .afterReport → watch.armed = true → watch.reference = s.len.measured)

/-- The two runs at the same place of the sample. -/
def Twin (load creep : CheckPoint) (y y' : State) : Prop :=
  ∃ limit watch, y' = y.withWatch limit watch ∧ y.mayHave load creep limit watch

theorem Twin.reads {α : Type} (h : Twin load creep y y') (f : State → α)
    (blind : ∀ limit watch, f (y.withWatch limit watch) = f y) : f y' = f y := by
  obtain ⟨limit, watch, rfl, -⟩ := h
  exact blind limit watch

theorem Twin.seq (h : Twin load creep y y') : y'.seq = y.seq := h.reads State.seq fun _ _ => rfl

theorem Twin.gov (h : Twin load creep y y') : y'.gov = y.gov := h.reads State.gov fun _ _ => rfl

theorem Twin.loop (h : Twin load creep y y') : y'.loop = y.loop := h.reads State.loop fun _ _ => rfl

theorem Twin.stop (h : Twin load creep y y') : y'.stop = y.stop := h.reads State.stop fun _ _ => rfl

theorem Twin.link (h : Twin load creep y y') : y'.link = y.link := h.reads State.link fun _ _ => rfl

theorem Twin.monitor (h : Twin load creep y y') : y'.load = y.load := h.reads State.load fun _ _ => rfl

theorem Twin.own (h : Twin load creep y y') : y'.own = y.own := h.reads State.own fun _ _ => rfl

theorem Twin.limit (h : Twin load creep y y') (inside : load ≠ .afterReport) : y'.params.tMax = y.params.tMax := by
  obtain ⟨limit, watch, rfl, same, -⟩ := h
  exact same inside

theorem Twin.watch (h : Twin load creep y y') (inside : creep ≠ .afterReport) : y'.creep = y.creep := by
  obtain ⟨limit, watch, rfl, -, -, same, -⟩ := h
  exact same inside

/-- A piece of work that neither reads nor writes what differs. -/
theorem Twin.blind (h : Twin load creep y y') (f : State → State)
    (commutes : ∀ limit watch, f (y.withWatch limit watch) = (f y).withWatch limit watch)
    (params : (f y).params = y.params) (tens : (f y).tens = y.tens) (watch : (f y).creep = y.creep)
    (len : (f y).len = y.len) : Twin load creep (f y) (f y') := by
  obtain ⟨limit, k, rfl, may⟩ := h
  refine ⟨limit, k, commutes limit k, ?_⟩
  unfold State.mayHave
  rw [params, tens, watch, len]
  exact may

theorem Twin.ite {p p' : Prop} [Decidable p] [Decidable p'] (same : p' ↔ p) (h : Twin load creep y y')
    (h' : Twin load creep z t) : Twin load creep (if p then y else z) (if p' then y' else t) := by
  by_cases k : p
  · rw [if_pos k, if_pos (same.mpr k)]; exact h
  · rw [if_neg k, if_neg fun n => k (same.mp n)]; exact h'

/-! ### The state's operations -/

theorem Twin.withSeq (h : Twin load creep y y') (x : Sequencer) : Twin load creep (y.withSeq x) (y'.withSeq x) :=
  h.blind (State.withSeq · x) (fun _ _ => rfl) rfl rfl rfl rfl

theorem Twin.withLoop (h : Twin load creep y y') (x : LineLoop) : Twin load creep (y.withLoop x) (y'.withLoop x) :=
  h.blind (State.withLoop · x) (fun _ _ => rfl) rfl rfl rfl rfl

theorem Twin.withStop (h : Twin load creep y y') (x : StopController) :
    Twin load creep (y.withStop x) (y'.withStop x) :=
  h.blind (State.withStop · x) (fun _ _ => rfl) rfl rfl rfl rfl

theorem Twin.withGov (h : Twin load creep y y') (x : Governor) : Twin load creep (y.withGov x) (y'.withGov x) :=
  h.blind (State.withGov · x) (fun _ _ => rfl) rfl rfl rfl rfl

theorem Twin.withLoad (h : Twin load creep y y') (x : LoadMonitor) : Twin load creep (y.withLoad x) (y'.withLoad x) :=
  h.blind (State.withLoad · x) (fun _ _ => rfl) rfl rfl rfl rfl

theorem Twin.requestSlot (h : Twin load creep y y') (k : SlotKind) (body : List Byte) :
    Twin load creep (requestSlot k body y) (requestSlot k body y') :=
  h.blind (Machine.requestSlot k body) (fun _ _ => rfl) rfl rfl rfl rfl

theorem Twin.toState (h : Twin load creep y y') (st : StationState) :
    Twin load creep (toState st y) (toState st y') :=
  h.blind (Machine.toState st) (fun _ _ => rfl) rfl rfl rfl rfl

theorem Twin.driveOff (h : Twin load creep y y') : Twin load creep (driveOff y) (driveOff y') :=
  h.blind Machine.driveOff (fun _ _ => rfl) rfl rfl rfl rfl

/-- The arming of the Creep Watch brings the two runs' watches together. -/
theorem Twin.armCreep (h : Twin load creep y y') : Twin load creep (armCreep y) (armCreep y') := by
  obtain ⟨limit, k, rfl, same, high, -, -⟩ := h
  exact ⟨limit, _, rfl, same, high, fun _ => rfl, fun _ _ => rfl⟩

/-! ### The brake -/

theorem Twin.brakeSetConfirmed (h : Twin load creep y y') :
    Twin load creep (brakeSetConfirmed y) (brakeSetConfirmed y') := by
  unfold Machine.brakeSetConfirmed
  rw [h.seq, h.stop]
  cases y.seq.state with
  | parking => exact h.armCreep.driveOff.toState .ready
  | stopping => exact .ite Iff.rfl (h.armCreep.driveOff.toState .stopped) h.armCreep
  | stopped => exact .ite Iff.rfl h h.armCreep
  | start | ready | primed | flying | locked => exact h

theorem Twin.confirmBrake (h : Twin load creep y y') : Twin load creep (confirmBrake y) (confirmBrake y') := by
  unfold Machine.confirmBrake
  rw [h.loop]
  cases y.loop.brake with
  | release => exact h.withLoop _
  | set => exact (h.withLoop _).brakeSetConfirmed

theorem Twin.restartSupervision (h : Twin load creep y y') :
    Twin load creep (restartSupervision y) (restartSupervision y') := by
  unfold Machine.restartSupervision
  rw [h.loop]
  exact .ite Iff.rfl (h.withLoop _).confirmBrake (h.withLoop _)

theorem Twin.commandBrake (h : Twin load creep y y') (c : BrakeCommand) :
    Twin load creep (commandBrake c y) (commandBrake c y') := by
  unfold Machine.commandBrake
  rw [h.loop, h.seq]
  exact .ite Iff.rfl h (.ite Iff.rfl (h.withLoop _).restartSupervision (h.withLoop _))

theorem Twin.settleRequest (h : Twin load creep y y') : Twin load creep (settleRequest y) (settleRequest y') := by
  unfold Machine.settleRequest
  rw [h.loop]
  exact .ite Iff.rfl (.ite Iff.rfl (h.driveOff.toState .stopped) h) (h.commandBrake .set)

theorem Twin.immediateRequest (h : Twin load creep y y') :
    Twin load creep (immediateRequest y) (immediateRequest y') := h.driveOff.commandBrake .set

theorem Twin.enterParking (h : Twin load creep y y') : Twin load creep (enterParking y) (enterParking y') := by
  have parked := (h.toState .parking).withGov { y.gov with dPrev := 0 }
  have aimed := parked.withLoop { y.loop with prevTarget := y.loop.target }
  unfold Machine.enterParking
  rw [h.gov]
  show Twin load creep _ (Machine.commandBrake .set (State.withLoop _ { y'.loop with prevTarget := y'.loop.target }))
  rw [h.loop]
  exact aimed.commandBrake .set

/-! ### Causes -/

/-- ASSIST reads the Creep Watch's reference; it begins only where the Creep Watch has made its check (R118). -/
theorem Twin.assistRequest (h : Twin load creep y y') (inside : creep ≠ .afterReport) :
    Twin load creep (assistRequest y) (assistRequest y') := by
  have length : y'.assistLength = y.assistLength := by
    unfold State.assistLength
    rw [h.watch inside, h.reads State.len fun _ _ => rfl]
  unfold Machine.assistRequest
  rw [length, h.loop]
  exact (h.withLoop _).commandBrake .set

variable {cat : Category}

theorem Twin.applyStop (h : Twin load creep y y') (cat : Category) (heeds : cat = .assist → creep ≠ .afterReport) :
    Twin load creep (applyStop cat y) (applyStop cat y') := by
  have ready : Twin load creep (stopFromReady cat y) (stopFromReady cat y') := by
    unfold stopFromReady
    rw [h.stop]
    have begun := (h.withStop (y.stop.enterCategory cat)).toState .stopped
    cases cat with
    | noStop => exact h
    | controlled => exact begun
    | immediate => exact begun.immediateRequest
    | assist => exact begun.assistRequest (heeds rfl)
  have flight : Twin load creep (stopFromFlight cat y) (stopFromFlight cat y') := by
    unfold stopFromFlight
    rw [h.stop]
    have begun := h.withStop (y.stop.enterCategory cat)
    cases cat with
    | noStop => exact h
    | controlled => exact (begun.withStop _).toState .stopping
    | immediate => exact (begun.toState .stopped).immediateRequest
    | assist => exact (begun.toState .stopped).assistRequest (heeds rfl)
  have stopping : Twin load creep (stopFromStopping cat y) (stopFromStopping cat y') := by
    unfold stopFromStopping
    rw [h.stop]
    have begun (cat : Category) := (h.withStop (y.stop.enterCategory cat)).toState .stopped
    cases cat with
    | noStop | controlled => exact h
    | immediate => exact (begun .immediate).immediateRequest
    | assist => exact (begun .assist).assistRequest (heeds rfl)
  have stopped : Twin load creep (stopFromStopped cat y) (stopFromStopped cat y') := by
    unfold stopFromStopped
    rw [h.stop]
    have begun (cat : Category) := h.withStop (y.stop.enterCategory cat)
    cases y.stop.category with
    | noStop | immediate => exact h
    | controlled =>
      cases cat with
      | noStop | controlled => exact h
      | immediate => exact (begun .immediate).immediateRequest
      | assist => exact (begun .assist).assistRequest (heeds rfl)
    | assist =>
      cases cat with
      | noStop | controlled | assist => exact h
      | immediate => exact (begun .immediate).immediateRequest
  unfold Machine.applyStop
  rw [h.seq]
  cases y.seq.state with
  | start | locked => exact h
  | ready => exact ready
  | primed | flying | parking => exact flight
  | stopping => exact stopping
  | stopped => exact stopped

theorem Twin.takeCause (h : Twin load creep y y') (c : FaultCode) (src : Nat)
    (heeds : c.category = .assist → creep ≠ .afterReport) : Twin load creep (takeCause c src y) (takeCause c src y') := by
  have taken : Twin load creep (intake c src y) (intake c src y') := by
    unfold intake
    rw [h.stop]
    exact (h.withStop _).applyStop c.category heeds
  have changes : changesCategory c.category y' = changesCategory c.category y :=
    h.reads (changesCategory c.category) fun _ _ => rfl
  have group : y'.ownGroup = y.ownGroup := h.reads State.ownGroup fun _ _ => rfl
  unfold Machine.takeCause
  rw [h.seq, changes, group, h.own]
  exact .ite Iff.rfl (.ite Iff.rfl (taken.requestSlot _ _) taken) h

/-! ### The stages of the sample -/

theorem Twin.judgeTrip (h : Twin load creep y y') : Twin load creep (judgeTrip y) (judgeTrip y') := by
  have limit : y'.params.tripTol = y.params.tripTol := h.reads (·.params.tripTol) fun _ _ => rfl
  unfold Machine.judgeTrip
  rw [limit, h.loop, h.own]
  exact .ite Iff.rfl (h.takeCause _ _ (nomatch ·)) h

theorem Twin.judgeFollow (h : Twin load creep y y') : Twin load creep (judgeFollow y) (judgeFollow y') := by
  have limit : y'.params.followTol = y.params.followTol := h.reads (·.params.followTol) fun _ _ => rfl
  unfold Machine.judgeFollow
  rw [limit, h.loop, h.gov]
  exact .ite Iff.rfl (h.withGov _) (h.withGov _)

theorem Twin.speedCommand (h : Twin load creep y y') (target : Nat) (e : Bool) :
    Twin load creep (speedCommand target e y) (speedCommand target e y') :=
  h.blind (Machine.speedCommand target e) (fun _ _ => rfl) rfl rfl rfl rfl

theorem Twin.moveProgress (h : Twin load creep y y') (b : Bool) :
    Twin load creep (moveProgress b y) (moveProgress b y') :=
  h.blind (Machine.moveProgress b) (fun _ _ => rfl) rfl rfl rfl rfl

theorem Twin.cycleComputation (h : Twin load creep y y') (b e : Bool) :
    Twin load creep (cycleComputation b e y) (cycleComputation b e y') := by
  have moved := h.moveProgress b
  have target : (Machine.moveProgress b y').targetAt (Machine.moveProgress b y').gov.k (Machine.moveProgress b y').gov.q =
      (Machine.moveProgress b y).targetAt (Machine.moveProgress b y).gov.k (Machine.moveProgress b y).gov.q :=
    moved.reads (fun u => u.targetAt u.gov.k u.gov.q) fun _ _ => rfl
  unfold Machine.cycleComputation
  dsimp only
  rw [target]
  exact (moved.speedCommand _ e).judgeFollow.judgeTrip

theorem Twin.settleTest (h : Twin load creep y y') : Twin load creep (settleTest y) (settleTest y') := by
  have limit : y'.params.followTol = y.params.followTol := h.reads (·.params.followTol) fun _ _ => rfl
  unfold Machine.settleTest
  rw [h.seq, h.stop, h.gov, h.loop, limit]
  exact .ite Iff.rfl (h.withStop _).settleRequest h

theorem Twin.loopWork (h : Twin load creep y y') (e : Bool) : Twin load creep (loopWork e y) (loopWork e y') := by
  have held : Twin load creep (if y.loop.drive then Machine.speedCommand y.loop.target false y else y)
      (if y.loop.drive then Machine.speedCommand y.loop.target false y' else y') :=
    .ite Iff.rfl (h.speedCommand _ false) h
  unfold Machine.loopWork
  rw [h.seq, h.loop]
  cases y.seq.state with
  | flying => exact h.cycleComputation false e
  | stopping => exact (h.cycleComputation true false).settleTest
  | primed | parking | stopped => exact held
  | start | ready | locked => exact h

theorem Twin.primedWork (h : Twin load creep y y') : Twin load creep (primedWork y) (primedWork y') := by
  have abandons : y'.mustAbandon = y.mustAbandon := h.reads State.mustAbandon fun _ _ => rfl
  have flies : y'.mayFly = y.mayFly := h.reads State.mayFly fun _ _ => rfl
  unfold Machine.primedWork refuse
  rw [abandons, flies, h.seq]
  exact .ite Iff.rfl (.ite Iff.rfl (h.withSeq _).enterParking (.ite Iff.rfl (h.toState .flying) h)) h

theorem Twin.completionTest (h : Twin load creep y y') : Twin load creep (completionTest y) (completionTest y') := by
  have finish : y'.cueEnd = y.cueEnd := h.reads State.cueEnd fun _ _ => rfl
  unfold Machine.completionTest
  rw [finish, h.seq, h.gov]
  exact .ite Iff.rfl (h.withSeq _).enterParking h

/-- The Load Monitor's work in two runs with one limit. -/
theorem Twin.loadMonitorAt (h : Twin load creep y y') (inside : load ≠ .afterReport) (here : CheckPoint) :
    Twin load creep (loadMonitorAt here y) (loadMonitorAt here y') := by
  have noted : Twin load creep y.loadNoted y'.loadNoted :=
    h.blind State.loadNoted (fun _ _ => rfl) rfl rfl rfl rfl
  have overloads : y'.overloads ↔ y.overloads := by
    unfold State.overloads
    rw [h.seq, h.limit inside, h.reads State.tens fun _ _ => rfl]
  have checked : Twin load creep (loadCheck y) (loadCheck y') := by
    by_cases above : y.overloads
    · rw [loadCheck_overload above, loadCheck_overload (overloads.mpr above), h.own]
      exact noted.takeCause _ _ (nomatch ·)
    · rw [loadCheck_silent above, loadCheck_silent fun k => above (overloads.mp k)]
      exact noted
  have raised {y y' : State} (h : Twin load creep y y') : Twin load creep (slackTimeoutWork y) (slackTimeoutWork y') := by
    unfold slackTimeoutWork
    rw [h.monitor, h.own]
    exact .ite Iff.rfl ((h.withLoad _).takeCause _ _ (nomatch ·)) h
  unfold Machine.loadMonitorAt
  exact .ite Iff.rfl checked (raised checked)

/-- The Creep Watch's check in two runs with one watch. -/
theorem Twin.creepCheck (h : Twin load creep y y') (inside : creep ≠ .afterReport) :
    Twin load creep (creepCheck y) (creepCheck y') := by
  have limit : y'.params.creepLimit = y.params.creepLimit := h.reads (·.params.creepLimit) fun _ _ => rfl
  have len : y'.len = y.len := h.reads State.len fun _ _ => rfl
  unfold Machine.creepCheck
  rw [h.seq, h.watch inside, limit, len, h.own]
  exact .ite Iff.rfl (h.takeCause _ _ fun _ => inside) h

theorem Twin.checksAt (h : Twin load creep y y') {here : CheckPoint} (before : here ≠ .afterReport) :
    Twin load creep (checksAt here load creep y) (checksAt here load creep y') := by
  have checked : Twin load creep (if here = load then Machine.loadMonitorAt here y else y)
      (if here = load then Machine.loadMonitorAt here y' else y') := by
    split
    next at_ => exact h.loadMonitorAt (at_ ▸ before) here
    next => exact h
  rw [checksAt_eq, checksAt_eq]
  split
  next at_ => exact checked.creepCheck (at_ ▸ before)
  next => exact checked

/-- The sample up to the composition of the own REPORT. -/
def beforeReport (load creep : CheckPoint) (s : State) : State :=
  checksAt .beforeReport load creep (completionTest (checksAt .beforeCompletion load creep
    (loopWork (entersFlight load creep s) (untilLoop load creep s))))

theorem cycleWork_report (load creep : CheckPoint) (s : State) : cycleWork load creep s =
    checksAt .afterReport load creep (composeReport (beforeReport load creep s)) := rfl

theorem Twin.beforeReport (h : Twin load creep y y') :
    Twin load creep (beforeReport load creep y) (beforeReport load creep y') := by
  have first : Twin load creep _ _ := h.checksAt (here := .beforeSequencer) (by decide)
  have entering : entersFlight load creep y' = entersFlight load creep y := by
    unfold entersFlight
    rw [first.seq, first.primedWork.seq]
  unfold Machine.beforeReport untilLoop
  rw [entering]
  exact (((first.primedWork.checksAt (by decide)).loopWork _).checksAt (by decide)).completionTest.checksAt (by decide)

/-- The read measures anew, so that a watch that has a reference must not have been armed before it. -/
theorem Twin.withLen (h : Twin load creep y y') (x : LengthReader)
    (disarmed : creep = .afterReport → y'.creep.armed = false) : Twin load creep (y.withLen x) (y'.withLen x) := by
  obtain ⟨limit, k, rfl, same, high, watch, -⟩ := h
  exact ⟨limit, k, rfl, same, high, watch, fun after armed => by cases (disarmed after).symm.trans armed⟩

theorem Twin.completeRead (h : Twin load creep y y') (w : EncoderWord)
    (disarmed : creep = .afterReport → y'.creep.armed = false) :
    Twin load creep (completeRead w y) (completeRead w y') := by
  have judged : y'.params.judgeWord w = y.params.judgeWord w := h.reads (·.params.judgeWord w) fun _ _ => rfl
  have len : y'.len = y.len := h.reads State.len fun _ _ => rfl
  have measured := h.withLen ((y.len.keepCount w).afterRead (y.params.judgeWord w)) disarmed
  unfold Machine.completeRead
  rw [judged, len, h.own]
  exact .ite Iff.rfl (measured.takeCause _ _ (nomatch ·)) measured

/-! ### After the REPORT -/

/-- A check after the REPORT finds nothing in the run that it is calm in. -/
theorem twin_calmEnd (h : Twin load creep y y') : ∃ holds n,
    checksAt .afterReport load creep (composeReport y') = (composeReport y').withNotes holds n ∧
      (load ≠ .afterReport → holds = y'.gov.holds) := by
  obtain ⟨limit, k, rfl, -, high, -, near⟩ := h
  let p := composeReport (y.withWatch limit k)
  have only : (y.withWatch limit k).changesOnly [.link, .peers] p := composeReport_only _
  have light (after : load = .afterReport) : ¬ p.overloads := fun found => by
    have above := found.2.2
    rw [only.params, only.tens] at above
    exact absurd above (Nat.not_lt.mpr (high after))
  have still (after : creep = .afterReport) : ¬ p.slipped := by
    rintro ⟨armed, far⟩
    rw [only.creep] at armed far
    rw [only.len, show (y.withWatch limit k).creep.reference = _ from near after armed] at far
    exact absurd far (by rw [show (y.withWatch limit k).len = y.len from rfl, Int.sub_self]; exact Nat.not_lt_zero _)
  have watched (z : State) (slipped : z.slipped → p.slipped) :
      (if CheckPoint.afterReport = creep then creepCheck z else z) = z := by
    split
    next at_ => exact creepCheck_silent fun found => still at_.symm (slipped found.2)
    next => rfl
  show ∃ holds n, checksAt .afterReport load creep p = p.withNotes holds n ∧ _
  rw [checksAt_eq]
  by_cases at_ : CheckPoint.afterReport = load
  · refine ⟨p.loadHolds, p.loadNoted.load, ?_, fun inside => absurd at_.symm inside⟩
    rw [if_pos at_, show loadMonitorAt .afterReport p = p.loadNoted from loadCheck_silent (light at_.symm)]
    exact watched _ id
  · refine ⟨p.gov.holds, p.load, ?_, fun _ => by rw [only.gov]⟩
    rw [if_neg at_]
    exact watched p id

end Sys2Proof.Machine
end

section
/-!
SUPPORT. The length sample as a whole: what its read makes of the word, and what its own REPORT shows (chapters 4 and
8).
-/

namespace Sys2Proof.Machine

set_option Elab.async false

variable {s t y y' z : State} {load creep : CheckPoint}

/-! ### ENCODER in the record (R123, R124, R139) -/

theorem inLater_addLater_other {d : FaultCode} (l : BitVec 24) (other : d ≠ .encoder) :
    inLater (addLater l d) .encoder = inLater l .encoder := by
  have clear : (1#24 <<< (d.code - 1)).getLsbD (FaultCode.encoder.code - 1) = false := by
    cases d with
    | encoder => exact absurd rfl other
    | _ => rfl
  unfold inLater addLater
  rw [BitVec.getLsbD_or, clear, Bool.or_false]

theorem record_holds_other {x : StopController} {d : FaultCode} (src : Nat) (other : d ≠ .encoder) :
    (x.record d src).holds .encoder ↔ x.holds .encoder := by
  unfold StopController.holds
  cases h : x.first with
  | none =>
    rw [record_opens h]
    refine or_congr_left ⟨fun ⟨_, k⟩ => ?_, fun ⟨_, k⟩ => (nomatch k)⟩
    cases k
    exact absurd rfl other
  | some f =>
    rw [record_adds h, ← h]
    show _ ∨ inLater (addLater x.later d) .encoder = true ↔ _
    rw [inLater_addLater_other _ other]

theorem StopMade.record_same {cat : Category} (h : StopMade s cat t) :
    t.stop.first = s.stop.first ∧ t.stop.later = s.stop.later := by
  cases h with
  | inForce | brakeStands | ramps => exact ⟨rfl, rfl⟩
  | drops => rw [show (immediateRequest (stoppedIn .immediate s)).stop = _ from dropped_stop s]; exact ⟨rfl, rfl⟩
  | holds => rw [show (assistRequest (stoppedIn .assist s)).stop = _ from assisted_stop s]; exact ⟨rfl, rfl⟩

/-- A cause taken in operation is in the record as `record` puts it there. -/
theorem takeCause_record (c : FaultCode) (src : Nat) (operating : s.seq.state.operating = true) :
    (takeCause c src s).stop.first = (s.stop.record c src).first ∧
      (takeCause c src s).stop.later = (s.stop.record c src).later :=
  takeCause_induction (P := fun t => t.stop.first = (s.stop.record c src).first ∧
    t.stop.later = (s.stop.record c src).later) (fun _ h => h) c src
    (fun idle => by rw [idle] at operating; cases operating) fun _ made => made.record_same

theorem takeCause_holds_other {d : FaultCode} (src : Nat) (other : d ≠ .encoder) :
    (takeCause d src s).stop.holds .encoder ↔ s.stop.holds .encoder := by
  cases operating : s.seq.state.operating with
  | false => rw [takeCause_idle d src operating]
  | true =>
    obtain ⟨first, later⟩ := takeCause_record (s := s) d src operating
    rw [← record_holds_other (x := s.stop) src other]
    unfold StopController.holds
    rw [first, later]

/-! ### What the blocks' work keeps for the REPORT -/

/-- The work of the blocks takes no ENCODER and no REPORT, and leaves the station in or out of operation. -/
def State.workedTo (y z : State) : Prop :=
  z.seq.state.operating = y.seq.state.operating ∧ z.link.line = y.link.line ∧
    z.link.reportSlot = y.link.reportSlot ∧ (z.stop.holds .encoder ↔ y.stop.holds .encoder)

theorem State.workedTo.refl (y : State) : y.workedTo y := ⟨rfl, rfl, rfl, Iff.rfl⟩

theorem State.workedTo.trans (h : y.workedTo z) (h' : z.workedTo t) : y.workedTo t := by
  obtain ⟨operating, line, slot, record⟩ := h
  obtain ⟨operating', line', slot', record'⟩ := h'
  exact ⟨operating'.trans operating, line'.trans line, slot'.trans slot, record'.trans record⟩

theorem takeCause_reportSlot (c : FaultCode) (src : Nat) (s : State) :
    (takeCause c src s).link.reportSlot = s.link.reportSlot := by
  have link : (intake c src s).link = s.link := (intake_only s c src).link
  unfold takeCause
  split
  · split
    · show (intake c src s).link.reportSlot = _
      rw [link]
    · exact congrArg LinkPort.reportSlot link
  · rfl

theorem takeCause_workedTo {d : FaultCode} (src : Nat) (other : d ≠ .encoder) : y.workedTo (takeCause d src y) :=
  ⟨takeCause_operating d src y, takeCause_line d src y, takeCause_reportSlot d src y, takeCause_holds_other src other⟩

/-- Work that touches neither the Link Port nor the record. -/
theorem State.workedTo.of (operating : z.seq.state.operating = y.seq.state.operating) (link : z.link = y.link)
    (first : z.stop.first = y.stop.first) (later : z.stop.later = y.stop.later) : y.workedTo z := by
  refine ⟨operating, congrArg LinkPort.line link, congrArg LinkPort.reportSlot link, ?_⟩
  unfold StopController.holds
  rw [first, later]

theorem loadMonitorAt_workedTo (here : CheckPoint) (y : State) : y.workedTo (loadMonitorAt here y) := by
  have checked : y.workedTo (loadCheck y) := by
    by_cases above : y.overloads
    · rw [loadCheck_overload above]
      exact takeCause_workedTo (y := y.loadNoted) _ (by decide)
    · rw [loadCheck_silent above]; exact .of rfl rfl rfl rfl
  have raised (y : State) : y.workedTo (slackTimeoutWork y) := by
    unfold slackTimeoutWork
    split
    · exact takeCause_workedTo (y := y.withLoad _) _ (by decide)
    · exact .refl y
  unfold loadMonitorAt
  split
  · exact checked
  · exact checked.trans (raised _)

theorem creepCheck_workedTo (y : State) : y.workedTo (creepCheck y) := by
  unfold creepCheck
  split
  · exact takeCause_workedTo _ (by decide)
  · exact .refl y

theorem checksAt_workedTo (here load creep : CheckPoint) (y : State) : y.workedTo (checksAt here load creep y) := by
  have monitor : y.workedTo (if here = load then loadMonitorAt here y else y) := by
    split
    · exact loadMonitorAt_workedTo here y
    · exact .refl y
  rw [checksAt_eq]
  split
  · exact monitor.trans (creepCheck_workedTo _)
  · exact monitor

theorem enterParking_operating (y : State) : (enterParking y).seq.state.operating = true := by
  rcases enterParking_state y with h | h <;> rw [h] <;> rfl

theorem primedWork_workedTo (y : State) : y.workedTo (primedWork y) := by
  have only := primedWork_only y
  refine .of ?_ only.link (congrArg StopController.first only.stop) (congrArg StopController.later only.stop)
  by_cases primed : y.seq.state = .primed
  · have operating : y.seq.state.operating = true := by rw [primed]; rfl
    rw [operating]
    rcases primedWork_running primed with h | h
    · rw [h]; rfl
    · cases state : (primedWork y).seq.state with
      | primed | flying | parking => rfl
      | start | ready | stopping | stopped | locked => rw [state] at h; cases h
  · rw [primedWork_other primed]

theorem completionTest_workedTo (y : State) : y.workedTo (completionTest y) := by
  have only := completionTest_only y
  refine .of ?_ only.link (congrArg StopController.first only.stop) (congrArg StopController.later only.stop)
  by_cases complete : y.seq.state = .flying ∧ y.gov.achieved = y.cueEnd
  · rw [completionTest_completes complete, enterParking_operating, complete.1]; rfl
  · rw [completionTest_other complete]

theorem loopWork_workedTo (e : Bool) (y : State) : y.workedTo (loopWork e y) := by
  have computed (b e : Bool) : y.workedTo (cycleComputation b e y) := by
    have only := computed_only y b e
    have moved : y.workedTo (y.computed b e) := .of (by rw [only.seq]) only.link (by rw [only.stop]) (by rw [only.stop])
    rw [cycleComputation_eq]
    unfold judgeTrip
    split
    · exact moved.trans (takeCause_workedTo _ (by decide))
    · exact moved
  have settled (z : State) : z.workedTo (settleTest z) := by
    refine ⟨settleTest_operating z, ?_⟩
    by_cases settles : z.settles
    · have only := settleRequest_only (z.withStop { z.stop with phase := .settling })
      rw [settleTest_settles settles, only.link, only.stop]
      exact ⟨rfl, rfl, Iff.rfl⟩
    · rw [settleTest_other settles]
      exact ⟨rfl, rfl, Iff.rfl⟩
  have held : y.workedTo (if y.loop.drive then speedCommand y.loop.target false y else y) := by
    split
    · exact .of rfl rfl rfl rfl
    · exact .refl y
  unfold loopWork
  cases y.seq.state with
  | flying => exact computed false e
  | stopping => exact (computed true false).trans (settled _)
  | primed | parking | stopped => exact held
  | start | ready | locked => exact .refl y

/-- What holds of a sample up to its REPORT, by its stages. -/
theorem beforeReport_induction {P : State → Prop}
    (monitor : load ≠ .afterReport → ∀ {y : State} (here : CheckPoint), P y → P (loadMonitorAt here y))
    (watch : ∀ {y : State}, P y → P (creepCheck y)) (primed : ∀ {y : State}, P y → P (primedWork y))
    (work : ∀ {y : State} (e : Bool), P y → P (loopWork e y))
    (completion : ∀ {y : State}, P y → P (completionTest y)) (start : P s) : P (beforeReport load creep s) := by
  have checks {y : State} {here : CheckPoint} (before : here ≠ .afterReport) (h : P y) :
      P (checksAt here load creep y) := by
    have monitored : P (if here = load then loadMonitorAt here y else y) := by
      split
      next at_ => exact monitor (at_ ▸ before) here h
      next => exact h
    rw [checksAt_eq]
    split
    · exact watch monitored
    · exact monitored
  exact checks (by decide) (completion (checks (by decide) (work _ (checks (by decide) (primed
    (checks (by decide) start))))))

/-- The blocks that the work up to the REPORT can change. -/
abbrev workBlocks : List Block := [.link, .seq, .gov, .loop, .load, .creep, .stop]

theorem beforeReport_only (load creep : CheckPoint) (s : State) :
    s.changesOnly workBlocks (beforeReport load creep s) :=
  beforeReport_induction (P := fun y => s.changesOnly workBlocks y) (fun _ _ here h => h.next (loadMonitorAt_only _ here))
    (fun h => h.next (creepCheck_only _)) (fun h => h.next (primedWork_only _)) (fun e h => h.next (loopWork_only _ e))
    (fun h => h.next (completionTest_only _)) .refl

theorem beforeReport_workedTo (load creep : CheckPoint) (s : State) : s.workedTo (beforeReport load creep s) :=
  beforeReport_induction (P := fun y => s.workedTo y) (fun _ _ here h => h.trans (loadMonitorAt_workedTo here _))
    (fun h => h.trans (creepCheck_workedTo _)) (fun h => h.trans (primedWork_workedTo _))
    (fun e h => h.trans (loopWork_workedTo e _)) (fun h => h.trans (completionTest_workedTo _)) (.refl s)

theorem primedWork_holds (y : State) : (primedWork y).gov.holds = y.gov.holds := by
  unfold primedWork
  split
  · split
    · rw [enterParking_gov]; rfl
    · split <;> rfl
  · rfl

theorem loopWork_holds (e : Bool) (y : State) : (loopWork e y).gov.holds = y.gov.holds := by
  have computed (b e : Bool) : (cycleComputation b e y).gov.holds = y.gov.holds := by
    rw [cycleComputation_eq, (judgeTrip_only _).gov, computed_holds]
  have held : (if y.loop.drive then speedCommand y.loop.target false y else y).gov.holds = y.gov.holds := by
    split <;> rfl
  unfold loopWork
  cases y.seq.state with
  | flying => exact computed false e
  | stopping =>
    show (settleTest _).gov.holds = _
    rw [(settleTest_only _).gov]
    exact computed true false
  | primed | parking | stopped => exact held
  | start | ready | locked => rfl

/-- Only the Load Monitor writes hold reasons in a sample. -/
theorem beforeReport_holds (after : load = .afterReport) (s : State) :
    (beforeReport load creep s).gov.holds = s.gov.holds :=
  beforeReport_induction (P := fun y => y.gov.holds = s.gov.holds) (fun inside => absurd after inside)
    (fun h => (congrArg Governor.holds (creepCheck_only _).gov).trans h) (fun h => (primedWork_holds _).trans h)
    (fun e h => (loopWork_holds e _).trans h) (fun h => (completionTest_holds _).trans h) rfl

/-! ### The read (R121 to R124) -/

/-- The encoder word fails, in the statements' words. -/
abbrev wordFails (w : EncoderWord) : Prop := encoderOnes w % 2 = 1 ∨ w.getLsbD 1 = true

theorem keepCount_eq (x : LengthReader) (w : EncoderWord) :
    x.keepCount w = { x with lastCount := if wordFails w then x.lastCount else w.toNat / 4 } := by
  unfold LengthReader.keepCount
  by_cases failed : wordFails w
  · rw [if_pos (encoderWordFailed_iff.mpr failed), if_pos failed]
  · rw [if_neg fun k => failed (encoderWordFailed_iff.mp k), if_neg failed]; rfl

/-- What the reader keeps of a failed read (R124). -/
def LengthReader.missed (x : LengthReader) (w : EncoderWord) : LengthReader :=
  { x with
    lastCount := if wordFails w then x.lastCount else w.toNat / 4
    failures := min 2 (x.failures + 1)
    lastResult := .failed
    reading := false }

theorem judgeWord_sound {w : EncoderWord} (p : Params) (sound : ¬ wordFails w) : p.judgeWord w =
    if 0 ≤ p.lengthOf (w.toNat / 4) ∧ p.lengthOf (w.toNat / 4) ≤ 999999 then .good (p.lengthOf (w.toNat / 4)).toNat
    else .outOfRange := by
  unfold Params.judgeWord
  rw [if_neg fun k => sound (encoderWordFailed_iff.mp k)]
  rfl

/-- The read of a good word in range. -/
theorem completeRead_good {w : EncoderWord} (sound : ¬ wordFails w) (low : 0 ≤ s.params.lengthOf (w.toNat / 4))
    (high : s.params.lengthOf (w.toNat / 4) ≤ 999999) : completeRead w s = s.withLen {
      measured := (s.params.lengthOf (w.toNat / 4)).toNat
      lastCount := w.toNat / 4
      failures := 0
      lastResult := .good
      reading := false } := by
  have judged : s.params.judgeWord w = .good (s.params.lengthOf (w.toNat / 4)).toNat :=
    (judgeWord_sound _ sound).trans (if_pos ⟨low, high⟩)
  unfold completeRead
  rw [judged, keepCount_eq, if_neg sound]
  rfl

/-- The read of a word that fails: ENCODER is raised at the second in a row (R124). -/
theorem completeRead_failed {w : EncoderWord} (failed : wordFails w) : completeRead w s =
    if 1 ≤ s.len.failures then takeCause .encoder s.own (s.withLen (s.len.missed w))
    else s.withLen (s.len.missed w) := by
  unfold completeRead
  rw [judgeWord_failed failed, keepCount_eq]
  exact if_congr decide_eq_true_iff rfl rfl

/-- The read of a word out of range raises ENCODER (R123). -/
theorem completeRead_outOfRange {w : EncoderWord} (sound : ¬ wordFails w)
    (out : s.params.lengthOf (w.toNat / 4) < 0 ∨ 999999 < s.params.lengthOf (w.toNat / 4)) :
    completeRead w s = takeCause .encoder s.own (s.withLen (s.len.missed w)) := by
  have judged : s.params.judgeWord w = .outOfRange := (judgeWord_sound _ sound).trans (if_neg (by omega))
  unfold completeRead
  rw [judged, keepCount_eq]
  rfl

theorem completeRead_operating (w : EncoderWord) (s : State) :
    (completeRead w s).seq.state.operating = s.seq.state.operating := by
  unfold completeRead
  dsimp only
  split
  · exact takeCause_operating _ _ _
  · rfl

/-- Out of operation the read takes no cause (R138). -/
theorem completeRead_idle (w : EncoderWord) (idle : s.seq.state.operating = false) :
    s.changesOnly [.len] (completeRead w s) := by
  have measured (x : LengthReader) : s.changesOnly [.len] (takeCause .encoder s.own (s.withLen x)) := by
    rw [takeCause_idle (s := s.withLen x) .encoder s.own idle]
    exact withLen_only s x
  unfold completeRead
  dsimp only
  split
  · exact measured _
  · exact withLen_only s _

theorem completeRead_link (w : EncoderWord) (s : State) : (completeRead w s).link.line = s.link.line ∧
    (completeRead w s).link.reportSlot = s.link.reportSlot := by
  unfold completeRead
  dsimp only
  split
  · exact ⟨takeCause_line _ _ _, takeCause_reportSlot _ _ _⟩
  · exact ⟨rfl, rfl⟩

/-! ### From the read to the end of the sample -/

theorem lengthSampleWork_operating (w : EncoderWord) (reading : s.len.reading = true)
    (operating : s.seq.state.operating = true) :
    lengthSampleWork w load creep s = cycleWork load creep (completeRead w s) := by
  unfold lengthSampleWork
  rw [if_pos reading]
  exact if_pos ((completeRead_operating w s).trans operating)

theorem lengthSampleWork_idle (w : EncoderWord) (reading : s.len.reading = true)
    (idle : s.seq.state.operating = false) : lengthSampleWork w load creep s = completeRead w s := by
  unfold lengthSampleWork
  rw [if_pos reading]
  exact if_neg (by rw [completeRead_operating w s, idle]; decide)

/-- After the read the sample takes no ENCODER, and measures nothing. -/
theorem sample_read (load creep : CheckPoint) (w : EncoderWord) (reading : s.len.reading = true) :
    (beginAttempt (lengthSampleWork w load creep s)).len = (completeRead w s).len ∧
      ((beginAttempt (lengthSampleWork w load creep s)).stop.holds .encoder ↔ (completeRead w s).stop.holds .encoder) ∧
      ((completeRead w s).stop.first.isSome = true →
        (beginAttempt (lengthSampleWork w load creep s)).stop.first = (completeRead w s).stop.first) := by
  have final := beginAttempt_only (lengthSampleWork w load creep s)
  rw [final.len, final.stop]
  cases operating : s.seq.state.operating with
  | false => rw [lengthSampleWork_idle w reading operating]; exact ⟨rfl, Iff.rfl, fun _ => rfl⟩
  | true =>
    rw [lengthSampleWork_operating w reading operating]
    let y := completeRead w s
    let p := beforeReport load creep y
    have record : (cycleWork load creep y).stop.holds .encoder ↔ y.stop.holds .encoder := by
      have before := beforeReport_workedTo load creep y
      have after := checksAt_workedTo .afterReport load creep (composeReport p)
      rw [cycleWork_report]
      refine after.2.2.2.trans (Iff.trans ?_ before.2.2.2)
      rw [(composeReport_only p).stop]
    exact ⟨(cycleWork_only _ _ _).len, record, (cycleWork_ops load creep y).first⟩

/-- A read that raises ENCODER in operation leaves it in the record at the end of the sample. -/
theorem sample_raises (load creep : CheckPoint) {w : EncoderWord} {x : LengthReader} (reading : s.len.reading = true)
    (operating : s.seq.state.operating = true)
    (read : completeRead w s = takeCause .encoder s.own (s.withLen x)) :
    let t := beginAttempt (lengthSampleWork w load creep s)
    t.holdsCause .encoder ∧ (s.stop.first = none → t.stop.first = some (.encoder, s.own)) := by
  obtain ⟨-, record, kept⟩ := sample_read load creep w reading
  rw [read] at record kept
  refine ⟨record.mpr (takeCause_holds (s := s.withLen x) .encoder s.own operating), fun empty => ?_⟩
  have first : (takeCause .encoder s.own (s.withLen x)).stop.first = some (.encoder, s.own) := by
    rw [(takeCause_record (s := s.withLen x) .encoder s.own operating).1]
    exact congrArg StopController.first (record_opens empty _ _)
  exact (kept (by rw [first]; rfl)).trans first

/-! ### The own REPORT (R62, R63) -/

/-- The REPORT of a sample on `s` that measures `length`, with the hold reasons `holds`, and otherwise as `u` shows. -/
def State.reportBy (s : State) (length : Nat) (holds : Holds) (u : State) : Report where
  cycleCount := s.clock.count
  stateCode := BitVec.ofNat 8 u.seq.state.code
  cue := BitVec.ofNat 8 u.gov.cue
  achieved := BitVec.ofNat 24 u.gov.achieved
  length := BitVec.ofNat 24 length
  tension := BitVec.ofNat 16 s.tens.latched
  holds := holds.byte
  flags := flagsByte u.gov.lag u.loop.sat s.clock.unsync u.seq.complete u.stop.assist
  firstFault := BitVec.ofNat 8 (match u.stop.first with | none => 0 | some f => f.1.code)
  faultSource := BitVec.ofNat 8 (match u.stop.first with | none => 255 | some f => f.2)
  laterFaults := u.stop.later
  refusal := BitVec.ofNat 8 u.seq.refusal.code
  fingerprint := s.path.fingerprint

theorem ownReport_by (h : Twin load creep z y') {holds : Holds} {n : LoadMonitor} {u : State}
    (r : ((composeReport y').withNotes holds n).reportedAs u) (clock : z.clock = s.clock) (tens : z.tens = s.tens)
    (path : z.path = s.path) : z.ownReport = s.reportBy z.len.measured z.gov.holds u := by
  obtain ⟨only, -⟩ := r
  have composed := composeReport_only y'
  have seq : u.seq = z.seq := only.seq.trans (composed.seq.trans h.seq)
  have stop : u.stop = z.stop := only.stop.trans (composed.stop.trans h.stop)
  have loop : u.loop = z.loop := only.loop.trans (composed.loop.trans h.loop)
  have gov : u.gov = { z.gov with holds := holds } := by
    rw [only.gov]
    show { (composeReport y').gov with holds := holds } = _
    rw [composed.gov, h.gov]
  unfold State.ownReport State.reportBy
  rw [seq, stop, loop, gov, clock, tens, path]
  cases z.stop.first with
  | none => rfl
  | some f => rfl

/-- What the composition of the own REPORT writes stays to the end of the sample. -/
theorem sample_reports (load creep : CheckPoint) (operating : y.seq.state.operating = true) :
    let p := beforeReport load creep y
    let t := beginAttempt (cycleWork load creep y)
    t.peers = { y.peers with rows := y.peers.rows.map (storeInRow y.own p.ownReport) } ∧
      (y.link.line = .busy → t.link.reportSlot = y.link.reportSlot.request p.ownReport.toBytes) := by
  intro p t
  have only := beforeReport_only load creep y
  obtain ⟨operating', line, slot, -⟩ := beforeReport_workedTo load creep y
  have composed := composeReport_operating (operating'.trans operating)
  let c := composeReport p
  obtain ⟨-, afterLine, afterSlot, -⟩ := checksAt_workedTo .afterReport load creep c
  have after : (checksAt .afterReport load creep c).peers = c.peers := by
    have monitor : (if CheckPoint.afterReport = load then loadMonitorAt .afterReport c else c).peers = c.peers := by
      split
      · exact (loadMonitorAt_only c _).peers
      · rfl
    rw [checksAt_eq]
    split
    · exact (creepCheck_only _).peers.trans monitor
    · exact monitor
  refine ⟨?_, fun busy => ?_⟩
  · refine (beginAttempt_only _).peers.trans (after.trans ?_)
    rw [show c = _ from composed]
    show { p.peers with rows := p.peers.rows.map (storeInRow p.own p.ownReport) } = _
    rw [show p.peers = y.peers from only.peers, show p.own = y.own from congrArg Params.station only.params]
  · have composedLine : c.link.line = p.link.line ∧
        c.link.reportSlot = p.link.reportSlot.request p.ownReport.toBytes := by
      rw [show c = _ from composed]; exact ⟨rfl, rfl⟩
    have still : beginAttempt (checksAt .afterReport load creep c) = checksAt .afterReport load creep c :=
      beginAttempt_busy (afterLine.trans (composedLine.1.trans (line.trans busy)))
    rw [show t = checksAt .afterReport load creep c from still, afterSlot, composedLine.2, slot]

/-! ### The run without what comes after the REPORT -/

/-- The state whose sample finds no OVERLOAD and no BRAKE_SLIP after the REPORT. -/
def State.calmed (s : State) (load creep : CheckPoint) : State :=
  s.withWatch (if load = .afterReport then max s.params.tMax s.tens.latched else s.params.tMax)
    { s.creep with armed := s.creep.armed && decide (creep ≠ .afterReport) }

theorem calmed_twin (s : State) (load creep : CheckPoint) : Twin load creep s (s.calmed load creep) := by
  refine ⟨_, _, rfl, fun inside => if_neg inside, fun after => ?_, fun inside => ?_, fun after armed => ?_⟩
  · rw [if_pos after]; exact Nat.le_max_right _ _
  · rw [decide_eq_true inside, Bool.and_true]
  · have armed : (s.creep.armed && decide (creep ≠ .afterReport)) = true := armed
    rw [decide_eq_false (not_not.mpr after), Bool.and_false] at armed
    cases armed

theorem calmed_self (load' : load ≠ .afterReport) (creep' : creep ≠ .afterReport) : s.calmed load creep = s := by
  unfold State.calmed
  rw [if_neg load', decide_eq_true creep', Bool.and_true]
  rfl

theorem calmed_disarmed (s : State) (load : CheckPoint) (after : creep = .afterReport) :
    (s.calmed load creep).creep.armed = false := by
  show (s.creep.armed && decide (creep ≠ .afterReport)) = false
  rw [decide_eq_false (not_not.mpr after), Bool.and_false]

/-- The REPORT of a sample in the words of the sample that finds nothing after it. -/
theorem sample_reportBy (w : EncoderWord) (load creep : CheckPoint) (reading : s.len.reading = true)
    (operating : s.seq.state.operating = true) :
    let t := beginAttempt (lengthSampleWork w load creep s)
    let u := beginAttempt (lengthSampleWork w load creep (s.calmed load creep))
    let r := s.reportBy t.len.measured (if load = .afterReport then s.gov.holds else u.gov.holds) u
    t.peers = { s.peers with rows := s.peers.rows.map (storeInRow s.own r) } ∧
      (s.link.line = .busy → t.link.reportSlot = s.link.reportSlot.request r.toBytes) := by
  intro t u r
  let y := completeRead w s
  let y' := completeRead w (s.calmed load creep)
  let p := beforeReport load creep y
  have twin : Twin load creep y y' := (calmed_twin s load creep).completeRead w (calmed_disarmed s load)
  have read := completeRead_only s w
  have before := beforeReport_only load creep y
  have whole : t = beginAttempt (cycleWork load creep y) :=
    congrArg beginAttempt (lengthSampleWork_operating w reading operating)
  have calm : u = beginAttempt (cycleWork load creep y') :=
    congrArg beginAttempt (lengthSampleWork_operating w reading operating)
  obtain ⟨holds, n, ends, same⟩ := twin_calmEnd twin.beforeReport
  have reported : ((composeReport (beforeReport load creep y')).withNotes holds n).reportedAs u := by
    rw [calm, cycleWork_report, ends]
    exact beginAttempt_reported _
  have length : p.len.measured = t.len.measured := by
    rw [whole, (beginAttempt_only _).len, (cycleWork_only _ _ _).len, before.len]
  have reasons : p.gov.holds = if load = .afterReport then s.gov.holds else u.gov.holds := by
    split
    next after => exact (beforeReport_holds after y).trans (congrArg Governor.holds read.gov)
    next inside =>
      have shown : u.gov.holds = holds := congrArg Governor.holds reported.1.gov
      rw [shown, same inside, twin.beforeReport.gov]
  have made : p.ownReport = r := by
    rw [ownReport_by (s := s) twin.beforeReport reported (before.clock.trans read.clock) (before.tens.trans read.tens)
      (before.path.trans read.path)]
    show s.reportBy p.len.measured p.gov.holds u = _
    rw [length, reasons]
  obtain ⟨peers, slot⟩ := sample_reports load creep (y := y) ((completeRead_operating w s).trans operating)
  rw [show beforeReport load creep y = p from rfl, made, ← whole] at peers slot
  refine ⟨peers.trans ?_, fun busy => ?_⟩
  · rw [show y.peers = s.peers from read.peers, show y.own = s.own from congrArg Params.station read.params]
  · obtain ⟨line, before⟩ := completeRead_link w s
    rw [← before]
    exact slot (line.trans busy)

/-- Settles O54. -/
theorem lengthSampleJudgesTheWord : Obligations.LengthSampleJudgesTheWord := by
  unfold Obligations.LengthSampleJudgesTheWord
  intro w load creep s quiet reading failed magnitude l kept raised
  have length : s.params.lengthOf (w.toNat / 4) = l := rfl
  have run := exec_lengthSample w load creep quiet
  obtain ⟨len, record, -⟩ := sample_read load creep w reading
  have missed : s.len.missed w = kept := rfl
  refine ⟨_, run, fun sound low high => ?_, fun fails => ⟨?_, fun operating again => ?_, fun first held => ?_⟩,
    fun sound out => ⟨?_, fun operating => ?_⟩, fun idle => ?_, fun operating => ?_, ?_⟩
  · rw [len, completeRead_good sound low high]; rfl
  · rw [len, completeRead_failed fails, ← missed]
    split
    · exact (takeCause_only _ _ _).len
    · rfl
  · exact sample_raises load creep reading operating ((completeRead_failed fails).trans (if_pos again))
  · have held := record.mp held
    rw [completeRead_failed fails, if_neg (by rw [first]; decide)] at held
    exact held
  · rw [len, completeRead_outOfRange sound out, ← missed]
    exact (takeCause_only _ _ _).len
  · exact sample_raises load creep reading operating (completeRead_outOfRange sound out)
  · rw [lengthSampleWork_idle w reading idle, beginAttempt_idle ((completeRead_operating w s).trans idle)]
    exact completeRead_idle w idle
  · intro calm
    obtain ⟨peers, slot⟩ := sample_reportBy w load creep reading operating
    refine ⟨_, exec_lengthSample (s := s.calmed load creep) w load creep quiet, peers, slot, fun load' creep' => ?_⟩
    rw [calmed_self load' creep']
  · exact (lengthSampleWork_only s w load creep).next (beginAttempt_only _)

end Sys2Proof.Machine
end
